-- ==== Sys2Proof/Word.lean ====
section
/-! DEFINITION. The word types of the block (00_scope.md R10, 30_encoding.md R95): whole bytes, the 16-bit words a
payload may carry, and the 28-bit host command word. -/

namespace Sys2Proof

/-- A byte, 8 bits, unsigned (R10). Also the width of the header registers, the cursors, the frame position and the
checksum accumulator (R21 to R28, R38 to R40). -/
abbrev Byte := BitVec 8

/-- A 16-bit payload word (R60, R64). -/
abbrev Half := BitVec 16

/-- The low nibble of a status code: a status code is `0xF0 + c` (R92). -/
abbrev Nibble := BitVec 4

/-- The host command word `op[27:24] a[23:16] d[15:0]` (R95). -/
abbrev CmdWord := BitVec 28

end Sys2Proof
end

