-- ==== Sys2Proof/Config.lean ====
section
/-! DEFINITION. What an implementation fixes: the open parameters of 00_scope.md R5 to R9 with their legal ranges, the
constants the source does fix (R9), and the reference configuration of the test vectors. Nothing of this hardware is an
undefined value, so there is no free value here (93_implementation_defined.md, end of section 1). -/

namespace Sys2Proof

/-- The start marker 0xFF (R9). -/
abbrev MARKER : Byte := 0xFF

/-- The sentinel blank byte 0xFF (R9). -/
abbrev BLANK : Byte := 0xFF

/-- The least status code 0xF0 (R9). -/
abbrev STATUS_MIN : Byte := 0xF0

/-- The header size 3: length, feature, checksum (R9). -/
abbrev HEADER : Nat := 3

/-- The number of silent intervals after which a link is dead (R9). -/
abbrev DEAD_FACTOR : Nat := 5

/-- The one status code whose value the source gives (R9). -/
abbrev ST_HELO : Byte := 0xFB

/-- The open parameters of R5 to R9, as plain numbers. -/
structure Params where
  /-- BUFFER_CAPACITY, the capacity of each payload buffer (R5). -/
  cap : Nat
  /-- TIMEOUT_MS, the frame timeout (R6). -/
  timeoutMs : Nat
  /-- CLOCK_WIDTH, the width W of the clock, the stamps and the interval (R7). -/
  clockWidth : Nat
  /-- COUNTER_WIDTH, the width CW of the two counters (R8). -/
  counterWidth : Nat
  /-- ST_ACK (R9). -/
  stAck : Byte
  /-- ST_NACK (R9). -/
  stNack : Byte
  /-- ST_FAIL (R9). -/
  stFail : Byte
deriving DecidableEq, Repr

/-- The legal ranges of R5 to R9. -/
def Params.legal (p : Params) : Bool :=
  decide (1 ≤ p.cap) && decide (p.cap ≤ 239)
    && decide (8 ≤ p.clockWidth) && decide (p.clockWidth ≤ 64)
    && decide (p.timeoutMs < 2 ^ p.clockWidth)
    && decide (1 ≤ p.counterWidth) && decide (p.counterWidth ≤ 64)
    && decide (STATUS_MIN ≤ p.stAck) && decide (STATUS_MIN ≤ p.stNack) && decide (STATUS_MIN ≤ p.stFail)
    && decide (p.stAck ≠ p.stNack) && decide (p.stAck ≠ p.stFail) && decide (p.stNack ≠ p.stFail)
    && decide (p.stAck ≠ ST_HELO) && decide (p.stNack ≠ ST_HELO) && decide (p.stFail ≠ ST_HELO)

/-- A legal configuration. An illegal one is refused (93 U7): it has no `Config`. -/
structure Config extends Params where
  /-- The parameters are in the ranges of R5 to R9. -/
  legal : toParams.legal = true
deriving DecidableEq, Repr

/-- The configuration with these parameters, refused (`none`) where one is out of its range (U7). -/
def Config.ofParams? (p : Params) : Option Config :=
  if h : p.legal = true then some ⟨p, h⟩ else none

/-- The reference configuration REFCFG of R9, the spec's own choice for its test vectors: it binds no statement. -/
def Config.reference : Config :=
  { cap := 8, timeoutMs := 100, clockWidth := 32, counterWidth := 16,
    stAck := 0xF0, stNack := 0xF1, stFail := 0xF2, legal := by decide }

/-- The width of `rsp_data`: `max(16, W, CW)` (R101). -/
def Config.responseWidth (c : Config) : Nat := max 16 (max c.clockWidth c.counterWidth)

end Sys2Proof
end

