-- ==== Sys2Proof/Syntax.lean ====
section
/-! DEFINITION. The instructions: one constructor of `Instr` per row of opcode_table.json (00_scope.md R4): the wire
frames and stream bytes, the host commands, RDREG with each of its selectors, and the micro-steps. `Command` is the
opcode map of the command word (30_encoding.md R100) and `Reg` the selector map of RDREG (10_state.md R41). -/

namespace Sys2Proof

/-- The registers RDREG can select (R41). -/
inductive Reg where
  | rxLength
  | rxFeature
  | rxChecksum
  /-- `rx_feature AND 0xF0`. -/
  | rxFeatureSet
  | receiveCursor
  | receiveCount
  | txLength
  | txFeature
  | txChecksum
  /-- `tx_feature AND 0xF0`. -/
  | txFeatureSet
  | sendCursor
  /-- The three flags. -/
  | status
  | failedCount
  | successCount
  | hbInterval
  | lastMessageTime
  | lastHeartbeatTime
deriving DecidableEq, Repr

/-- A host command as the opcode map of R100 has it: sixteen opcodes with their operands. -/
inductive Command where
  | nop
  | connect
  | poll
  | txfeature (f : Byte)
  | txbyte (v : Byte)
  | txword (w : Half)
  | txlenauto
  | txsend
  | txsendb (f v : Byte)
  | txsendw (f : Byte) (w : Half)
  | txpurge
  | rxgetb
  | rxgetw
  | rdreg (s : Byte)
  | isalive
  | undefined
deriving DecidableEq, Repr

/-- The instructions, one per row of opcode_table.json. -/
inductive Instr where
  /-- DATA: a data frame `FF l f k payload` whose sum is 0 (R91, R162). -/
  | data (l f k : Byte) (payload : List Byte)
  /-- DATA.MISMATCH: a data frame whose sum is not 0 (R167). -/
  | dataMismatch (l f k : Byte) (payload : List Byte)
  /-- DATA.OVERFLOW: a marker and a length the buffer cannot hold (R115, R166). -/
  | dataOverflow (l : Byte)
  /-- STATUS: the generic status frame, any code `0xF0 + c` (R92, R158). -/
  | status (c : Nibble)
  /-- HELO: the status frame with code 0xFB (R163). -/
  | helo
  /-- ACK: the status frame whose code is ST_ACK (R164). -/
  | ack (c : Nibble)
  /-- NACK: the status frame whose code is ST_NACK (R164). -/
  | nack (c : Nibble)
  /-- FAIL: the status frame whose code is ST_FAIL (R164). -/
  | fail (c : Nibble)
  /-- STATUS.RESERVED: a status frame with any other code (R113, R165). -/
  | statusReserved (c : Nibble)
  /-- STRAY: a byte other than the marker while IDLE (R114, R153). -/
  | stray (b : Byte)
  /-- MARKER: the start marker while IDLE (R152). -/
  | marker
  /-- NOP (R241). -/
  | nop
  /-- CONNECT (R242). -/
  | connect
  /-- POLL (R243). -/
  | poll
  /-- TXFEATURE f (R191). -/
  | txfeature (f : Byte)
  /-- TXBYTE v (R192). -/
  | txbyte (v : Byte)
  /-- TXWORD w (R193). -/
  | txword (w : Half)
  /-- TXLENAUTO (R194). -/
  | txlenauto
  /-- TXSEND (R195). -/
  | txsend
  /-- TXSENDB f, v (R196). -/
  | txsendb (f v : Byte)
  /-- TXSENDW f, w (R197). -/
  | txsendw (f : Byte) (w : Half)
  /-- TXPURGE (R198). -/
  | txpurge
  /-- RXGETB (R244). -/
  | rxgetb
  /-- RXGETW (R245). -/
  | rxgetw
  /-- RDREG s: the generic row, any selector (R246). -/
  | rdreg (s : Byte)
  /-- RDREG 0x00. -/
  | rdregRxLength
  /-- RDREG 0x01. -/
  | rdregRxFeature
  /-- RDREG 0x02. -/
  | rdregRxChecksum
  /-- RDREG 0x03. -/
  | rdregRxFeatureset
  /-- RDREG 0x04. -/
  | rdregReceivecursor
  /-- RDREG 0x05. -/
  | rdregReceivecount
  /-- RDREG 0x10. -/
  | rdregTxLength
  /-- RDREG 0x11. -/
  | rdregTxFeature
  /-- RDREG 0x12. -/
  | rdregTxChecksum
  /-- RDREG 0x13. -/
  | rdregTxFeatureset
  /-- RDREG 0x14. -/
  | rdregSendcursor
  /-- RDREG 0x20. -/
  | rdregStatus
  /-- RDREG 0x21. -/
  | rdregFailedcount
  /-- RDREG 0x22. -/
  | rdregSuccesscount
  /-- RDREG 0x30. -/
  | rdregHbInterval
  /-- RDREG 0x31. -/
  | rdregLastmessagetime
  /-- RDREG 0x32. -/
  | rdregLastheartbeattime
  /-- ISALIVE (R225). -/
  | isalive
  /-- UNDEFINED: opcode 0xF (R247). -/
  | undefined
  /-- RXBYTE(b): the receive micro-step (R150). -/
  | rxbyte (b : Byte)
  /-- TIMEOUTCHK: the frame timeout micro-step (R220). -/
  | timeoutchk
  /-- HBTICK: the heartbeat micro-step (R221). -/
  | hbtick
deriving DecidableEq, Repr

/-- The words of an instruction: a command word on the command port, or bytes on the wire (R90). -/
inductive Encoded where
  | command (w : CmdWord)
  | stream (bytes : List Byte)
deriving DecidableEq, Repr

end Sys2Proof
end

