-- ==== Sys2Proof/Decode.lean ====
section
/-! DEFINITION. The decoder, total on every command word and every byte sequence (30_encoding.md R90 to R119), and after
it the encoder, written from the same tables. A byte sequence is read as the receive state machine meets it: in IDLE a
whole frame at its head is one instruction, a frame that has not arrived whole is its MARKER and then single bytes, and
inside a frame every byte is one RXBYTE (log 7). -/

namespace Sys2Proof

/-! ## Fields -/

/-- Field `op` of a command word, bits 27:24 (R95). -/
def cmdOp (w : CmdWord) : Nibble := w.extractLsb' 24 4

/-- Field `a` of a command word, bits 23:16 (R95). -/
def cmdA (w : CmdWord) : Byte := w.extractLsb' 16 8

/-- Field `d` of a command word, bits 15:0 (R95). -/
def cmdD (w : CmdWord) : Half := w.extractLsb' 0 16

/-- `v[15:8]`, the byte at the lower index and first on the wire (R60). -/
def hiByte (v : Half) : Byte := v.extractLsb' 8 8

/-- `v[7:0]` (R60), also the byte operand `d[7:0]` of a command word (R97). -/
def loByte (v : Half) : Byte := v.extractLsb' 0 8

/-- The word `{hi, lo}` (R13, R60). -/
def joinBytes (hi lo : Byte) : Half := hi ++ lo

/-- The status code `0xF0 + c` of a status frame (R92). -/
def statusCode (c : Nibble) : Byte := 0xF#4 ++ c

/-- The low nibble of a status code (R92). -/
def codeNibble (b : Byte) : Nibble := b.extractLsb' 0 4

/-- A byte sum modulo 256 (R11, R130). -/
def byteSum (bs : List Byte) : Byte := bs.foldl (· + ·) 0

/-- `length + feature + checksum + Σ data` modulo 256, which is 0 for a valid frame (R132). -/
def frameSum (l f k : Byte) (payload : List Byte) : Byte := byteSum (l :: f :: k :: payload)

/-! ## RDREG selectors -/

/-- The selector map of R41; `none` where the table says REJECT. -/
def Reg.ofSelector (s : Byte) : Option Reg :=
  match s.toNat with
  | 0x00 => some .rxLength
  | 0x01 => some .rxFeature
  | 0x02 => some .rxChecksum
  | 0x03 => some .rxFeatureSet
  | 0x04 => some .receiveCursor
  | 0x05 => some .receiveCount
  | 0x10 => some .txLength
  | 0x11 => some .txFeature
  | 0x12 => some .txChecksum
  | 0x13 => some .txFeatureSet
  | 0x14 => some .sendCursor
  | 0x20 => some .status
  | 0x21 => some .failedCount
  | 0x22 => some .successCount
  | 0x30 => some .hbInterval
  | 0x31 => some .lastMessageTime
  | 0x32 => some .lastHeartbeatTime
  | _ => none

/-- The selector of a register (R41). -/
def Reg.selector : Reg → Byte
  | .rxLength => 0x00
  | .rxFeature => 0x01
  | .rxChecksum => 0x02
  | .rxFeatureSet => 0x03
  | .receiveCursor => 0x04
  | .receiveCount => 0x05
  | .txLength => 0x10
  | .txFeature => 0x11
  | .txChecksum => 0x12
  | .txFeatureSet => 0x13
  | .sendCursor => 0x14
  | .status => 0x20
  | .failedCount => 0x21
  | .successCount => 0x22
  | .hbInterval => 0x30
  | .lastMessageTime => 0x31
  | .lastHeartbeatTime => 0x32

/-- The opcode table's row for RDREG of a register. -/
def Reg.instr : Reg → Instr
  | .rxLength => .rdregRxLength
  | .rxFeature => .rdregRxFeature
  | .rxChecksum => .rdregRxChecksum
  | .rxFeatureSet => .rdregRxFeatureset
  | .receiveCursor => .rdregReceivecursor
  | .receiveCount => .rdregReceivecount
  | .txLength => .rdregTxLength
  | .txFeature => .rdregTxFeature
  | .txChecksum => .rdregTxChecksum
  | .txFeatureSet => .rdregTxFeatureset
  | .sendCursor => .rdregSendcursor
  | .status => .rdregStatus
  | .failedCount => .rdregFailedcount
  | .successCount => .rdregSuccesscount
  | .hbInterval => .rdregHbInterval
  | .lastMessageTime => .rdregLastmessagetime
  | .lastHeartbeatTime => .rdregLastheartbeattime

/-! ## Command words -/

/-- The opcode map of R100; the operand bits a command does not use are ignored (R117). -/
def commandOf (w : CmdWord) : Command :=
  match (cmdOp w).toNat with
  | 0x0 => .nop
  | 0x1 => .connect
  | 0x2 => .poll
  | 0x3 => .txfeature (cmdA w)
  | 0x4 => .txbyte (loByte (cmdD w))
  | 0x5 => .txword (cmdD w)
  | 0x6 => .txlenauto
  | 0x7 => .txsend
  | 0x8 => .txsendb (cmdA w) (loByte (cmdD w))
  | 0x9 => .txsendw (cmdA w) (cmdD w)
  | 0xA => .txpurge
  | 0xB => .rxgetb
  | 0xC => .rxgetw
  | 0xD => .rdreg (cmdA w)
  | 0xE => .isalive
  | _ => .undefined

/-- The row of the opcode table a host command belongs to: RDREG with a selector of R41 has a row of its own (log 10). -/
def Instr.ofCommand : Command → Instr
  | .nop => .nop
  | .connect => .connect
  | .poll => .poll
  | .txfeature f => .txfeature f
  | .txbyte v => .txbyte v
  | .txword w => .txword w
  | .txlenauto => .txlenauto
  | .txsend => .txsend
  | .txsendb f v => .txsendb f v
  | .txsendw f w => .txsendw f w
  | .txpurge => .txpurge
  | .rxgetb => .rxgetb
  | .rxgetw => .rxgetw
  | .rdreg s =>
    match Reg.ofSelector s with
    | some r => r.instr
    | none => .rdreg s
  | .isalive => .isalive
  | .undefined => .undefined

/-- The decoder of command words: every word is an instruction (R100, R116). -/
def decodeCommand (w : CmdWord) : Instr := .ofCommand (commandOf w)

/-! ## Byte sequences -/

/-- Why a byte sequence holds no instruction. -/
inductive DecodeReject where
  /-- There is no byte. -/
  | noByte
deriving DecidableEq, Repr

/-- The answer of the stream decoder. -/
inductive Decoded where
  | instr (i : Instr) (rest : List Byte)
  | reject (why : DecodeReject)
deriving DecidableEq, Repr

/-- The three kinds of frame the byte at position 0 selects (R71, R102). -/
inductive FrameKind where
  | data
  | tooLong
  | status
deriving DecidableEq, Repr

/-- The frame kind of the byte at position 0: the status test first, then the capacity test (R98, R102, R289). -/
def frameKind (c : Config) (b : Byte) : FrameKind :=
  if STATUS_MIN ≤ b then .status else if c.cap < b.toNat then .tooLong else .data

/-- The row a status code belongs to (R103). -/
def statusInstr (c : Config) (code : Byte) : Instr :=
  if code = ST_HELO then .helo
  else if code = c.stAck then .ack (codeNibble code)
  else if code = c.stNack then .nack (codeNibble code)
  else if code = c.stFail then .fail (codeNibble code)
  else .statusReserved (codeNibble code)

/-- The row a complete data frame belongs to: the checksum law decides (R132, R162, R167). -/
def dataInstr (l f k : Byte) (payload : List Byte) : Instr :=
  if frameSum l f k payload = 0 then .data l f k payload else .dataMismatch l f k payload

/-- The decoder after a start marker (R118): a whole frame, or the marker alone where the frame has not arrived whole. -/
def decodeFrame (c : Config) : List Byte → Decoded
  | [] => .instr .marker []
  | b :: rest =>
    match frameKind c b with
    | .status => .instr (statusInstr c b) rest
    | .tooLong => .instr (.dataOverflow b) rest
    | .data =>
      match rest with
      | f :: k :: body =>
        if b.toNat ≤ body.length then .instr (dataInstr b f k (body.take b.toNat)) (body.drop b.toNat)
        else .instr .marker (b :: rest)
      | _ => .instr .marker (b :: rest)

/-- The decoder of the receive stream, inside a frame or not (R119: a marker means nothing inside a frame). -/
def decodeStream (c : Config) (inFrame : Bool) : List Byte → Decoded
  | [] => .reject .noByte
  | b :: rest =>
    if inFrame then .instr (.rxbyte b) rest
    else if b = MARKER then decodeFrame c rest
    else .instr (.stray b) rest

/-! ## The encoder -/

/-- A command word of its three fields (R95). -/
def cmdWord (op : Nibble) (a : Byte) (d : Half) : CmdWord := op ++ a ++ d

/-- The bytes of a status frame (R92). -/
def statusBytes (code : Byte) : List Byte := [MARKER, code]

/-- The bytes of a data frame in wire order (R61, R91). -/
def dataBytes (l f k : Byte) (payload : List Byte) : List Byte := MARKER :: l :: f :: k :: payload

/-- The words of an instruction, its ignored bits zero. A micro-step has none (R104). -/
def encode : Instr → Option Encoded
  | .data l f k p => some (.stream (dataBytes l f k p))
  | .dataMismatch l f k p => some (.stream (dataBytes l f k p))
  | .dataOverflow l => some (.stream [MARKER, l])
  | .status c => some (.stream (statusBytes (statusCode c)))
  | .helo => some (.stream (statusBytes ST_HELO))
  | .ack c => some (.stream (statusBytes (statusCode c)))
  | .nack c => some (.stream (statusBytes (statusCode c)))
  | .fail c => some (.stream (statusBytes (statusCode c)))
  | .statusReserved c => some (.stream (statusBytes (statusCode c)))
  | .stray b => some (.stream [b])
  | .marker => some (.stream [MARKER])
  | .nop => some (.command (cmdWord 0x0 0 0))
  | .connect => some (.command (cmdWord 0x1 0 0))
  | .poll => some (.command (cmdWord 0x2 0 0))
  | .txfeature f => some (.command (cmdWord 0x3 f 0))
  | .txbyte v => some (.command (cmdWord 0x4 0 (joinBytes 0 v)))
  | .txword w => some (.command (cmdWord 0x5 0 w))
  | .txlenauto => some (.command (cmdWord 0x6 0 0))
  | .txsend => some (.command (cmdWord 0x7 0 0))
  | .txsendb f v => some (.command (cmdWord 0x8 f (joinBytes 0 v)))
  | .txsendw f w => some (.command (cmdWord 0x9 f w))
  | .txpurge => some (.command (cmdWord 0xA 0 0))
  | .rxgetb => some (.command (cmdWord 0xB 0 0))
  | .rxgetw => some (.command (cmdWord 0xC 0 0))
  | .rdreg s => some (.command (cmdWord 0xD s 0))
  | .rdregRxLength => some (.command (cmdWord 0xD 0x00 0))
  | .rdregRxFeature => some (.command (cmdWord 0xD 0x01 0))
  | .rdregRxChecksum => some (.command (cmdWord 0xD 0x02 0))
  | .rdregRxFeatureset => some (.command (cmdWord 0xD 0x03 0))
  | .rdregReceivecursor => some (.command (cmdWord 0xD 0x04 0))
  | .rdregReceivecount => some (.command (cmdWord 0xD 0x05 0))
  | .rdregTxLength => some (.command (cmdWord 0xD 0x10 0))
  | .rdregTxFeature => some (.command (cmdWord 0xD 0x11 0))
  | .rdregTxChecksum => some (.command (cmdWord 0xD 0x12 0))
  | .rdregTxFeatureset => some (.command (cmdWord 0xD 0x13 0))
  | .rdregSendcursor => some (.command (cmdWord 0xD 0x14 0))
  | .rdregStatus => some (.command (cmdWord 0xD 0x20 0))
  | .rdregFailedcount => some (.command (cmdWord 0xD 0x21 0))
  | .rdregSuccesscount => some (.command (cmdWord 0xD 0x22 0))
  | .rdregHbInterval => some (.command (cmdWord 0xD 0x30 0))
  | .rdregLastmessagetime => some (.command (cmdWord 0xD 0x31 0))
  | .rdregLastheartbeattime => some (.command (cmdWord 0xD 0x32 0))
  | .isalive => some (.command (cmdWord 0xE 0 0))
  | .undefined => some (.command (cmdWord 0xF 0 0))
  | .rxbyte _ => none
  | .timeoutchk => none
  | .hbtick => none

/-- The generic row whose words an instruction's words are: STATUS for every status frame, RDREG for every register read,
itself otherwise (log 10). -/
def Instr.generic : Instr → Instr
  | .helo => .status 0xB
  | .ack c => .status c
  | .nack c => .status c
  | .fail c => .status c
  | .statusReserved c => .status c
  | .rdregRxLength => .rdreg 0x00
  | .rdregRxFeature => .rdreg 0x01
  | .rdregRxChecksum => .rdreg 0x02
  | .rdregRxFeatureset => .rdreg 0x03
  | .rdregReceivecursor => .rdreg 0x04
  | .rdregReceivecount => .rdreg 0x05
  | .rdregTxLength => .rdreg 0x10
  | .rdregTxFeature => .rdreg 0x11
  | .rdregTxChecksum => .rdreg 0x12
  | .rdregTxFeatureset => .rdreg 0x13
  | .rdregSendcursor => .rdreg 0x14
  | .rdregStatus => .rdreg 0x20
  | .rdregFailedcount => .rdreg 0x21
  | .rdregSuccesscount => .rdreg 0x22
  | .rdregHbInterval => .rdreg 0x30
  | .rdregLastmessagetime => .rdreg 0x31
  | .rdregLastheartbeattime => .rdreg 0x32
  | .data l f k p => .data l f k p
  | .dataMismatch l f k p => .dataMismatch l f k p
  | .dataOverflow l => .dataOverflow l
  | .status c => .status c
  | .stray b => .stray b
  | .marker => .marker
  | .nop => .nop
  | .connect => .connect
  | .poll => .poll
  | .txfeature f => .txfeature f
  | .txbyte v => .txbyte v
  | .txword w => .txword w
  | .txlenauto => .txlenauto
  | .txsend => .txsend
  | .txsendb f v => .txsendb f v
  | .txsendw f w => .txsendw f w
  | .txpurge => .txpurge
  | .rxgetb => .rxgetb
  | .rxgetw => .rxgetw
  | .rdreg s => .rdreg s
  | .isalive => .isalive
  | .undefined => .undefined
  | .rxbyte b => .rxbyte b
  | .timeoutchk => .timeoutchk
  | .hbtick => .hbtick

/-! ## The opcode table's numbering (log 9) -/

/-- The `n` bytes of a table word, the first on the wire in its most significant bits: the table numbers a frame's header
as one number, so the marker of DATA is bits 31:24. -/
def tableBytes (n w : Nat) : List Byte :=
  (List.range n).map fun i => BitVec.ofNat 8 (w / 256 ^ (n - 1 - i))

/-- A data frame of which the table gives only the head, filled with bytes of zeros to its full length. -/
def padFrame (c : Config) : List Byte → List Byte
  | m :: b :: rest =>
    if m = MARKER ∧ frameKind c b = .data then m :: b :: rest ++ List.replicate (b.toNat + 2 - rest.length) 0
    else m :: b :: rest
  | bs => bs

/-- The words a table word stands for: a command word where its 28 bits (as 28 bits or as four bytes) have no bit above
27, otherwise one to four bytes of the wire. -/
def tableEncoded (c : Config) (nbits w : Nat) : Option Encoded :=
  if (nbits = 28 ∨ nbits = 32) ∧ w < 2 ^ 28 then some (.command (BitVec.ofNat 28 w))
  else if nbits = 8 ∨ nbits = 16 ∨ nbits = 24 ∨ nbits = 32 then
    some (.stream (padFrame c (tableBytes (nbits / 8) w)))
  else none

/-- The instruction the decoder reads from a table word, in IDLE and in the reference configuration. -/
def decodeTableWord (nbits w : Nat) : Option Instr :=
  match tableEncoded .reference nbits w with
  | some (.command cw) => some (decodeCommand cw)
  | some (.stream bs) =>
    match decodeStream .reference false bs with
    | .instr i _ => some i
    | .reject _ => none
  | none => none

end Sys2Proof
end

