-- ==== Sys2Proof/Machine/State.lean ====
section
/-! DEFINITION. The state of the block and of what it is wired to (10_state.md), the inputs its agents can give it, the
reasons a step can stop, and the state after reset (70_reset_and_hazards.md R320, R323). -/

namespace Sys2Proof.Machine

/-- A payload buffer (R42, R43): the bytes that differ from BLANK, by rising index. An unlisted index reads BLANK, which is
both the reset and the purged contents (R134, R135, R320). -/
abbrev Memory := List Host.Cell

/-- A callback, as the event trace records it (R47). -/
inductive Event where
  /-- `OnMessage(length, feature, checksum, data)`: a copy of the receive Message. -/
  | onMessage (length feature checksum : Byte) (data : List Byte)
  /-- `OnStatus(code)`. -/
  | onStatus (code : Byte)
deriving DecidableEq, Repr

/-- The answer to a host command on the response port (R101): `ok` is `rsp_ok`, `data` is `rsp_data`. -/
structure Response where
  ok : Bool
  data : Nat
deriving DecidableEq, Repr

/-- What the agents around the core can do (R288, R294, R296, R321), one per step (log 3). -/
inductive Input where
  /-- `Arrive(b)`: the transport appends a byte to the RX queue (R44, R77). -/
  | arrive (b : Byte)
  /-- The clock input changes (R46). -/
  | clock (t : Nat)
  /-- The configuration input changes (R48). -/
  | strap (v : Nat)
  /-- The host fixes the handler of a callback still to come (R49). -/
  | handler (h : List CmdWord)
  /-- The host presents a command word (R240). -/
  | command (w : CmdWord)
  /-- The core consumes the next wire instruction of the RX queue as a step of its own (D12, log 6). -/
  | receive
  /-- The core runs TIMEOUTCHK as a step of its own (D12, log 6). -/
  | timeoutchk
  /-- The core runs HBTICK as a step of its own (D12, log 6). -/
  | hbtick
  /-- The reset port is asserted (R321). -/
  | reset
deriving DecidableEq, Repr

/-- Why a step ends in a fault. -/
inductive Fault where
  /-- Raised by every access to a payload buffer at an index outside `0 .. CAP-1`, which does not exist (R13, R68, R69).
  Safe: no reachable state does it, and the model stops instead of inventing a byte (log 11). -/
  | bufferIndex
deriving DecidableEq, Repr

/-- Why a step is refused. -/
inductive Refusal where
  /-- An instruction that has no meaning yet, by its mnemonic. Safe: the model stops. -/
  | notModelled (mnemonic : String)
  /-- Raised by POLL inside a host handler, to which the spec gives no meaning (R248, U3). Safe: the model stops. -/
  | pollInHandler
deriving DecidableEq, Repr

/-- The state. W-bit and CW-bit values are Nat, with the width as an invariant (log 2). -/
structure State where
  /-- The parameters; no step writes them (R5 to R9). -/
  cfg : Config
  /-- `rx_length` (R21). -/
  rxLength : Byte
  /-- `rx_feature` (R22). -/
  rxFeature : Byte
  /-- `rx_checksum` (R23). -/
  rxChecksum : Byte
  /-- `rx_data` (R42). -/
  rxData : Memory
  /-- `tx_length` (R24). -/
  txLength : Byte
  /-- `tx_feature` (R25). -/
  txFeature : Byte
  /-- `tx_checksum` (R26). -/
  txChecksum : Byte
  /-- `tx_data` (R43). -/
  txData : Memory
  /-- `receiveCount`, the frame position (R28). -/
  receiveCount : Byte
  /-- `receiving`: IN_FRAME (R31). -/
  receiving : Bool
  /-- `configured` (R30). -/
  configured : Bool
  /-- `heartbeatDead` (R32). -/
  heartbeatDead : Bool
  /-- `hb_interval`, W bits (R33). -/
  hbInterval : Nat
  /-- `lastMessageTime`, W bits (R34). -/
  lastMessageTime : Nat
  /-- `lastHeartbeatTime`, W bits (R35). -/
  lastHeartbeatTime : Nat
  /-- `failedCount`, CW bits (R36). -/
  failedCount : Nat
  /-- `successCount`, CW bits (R37). -/
  successCount : Nat
  /-- `sendCursor` (R38). -/
  sendCursor : Byte
  /-- `receiveCursor` (R39). -/
  receiveCursor : Byte
  /-- `acc`, the running checksum accumulator (R40). -/
  acc : Byte
  /-- `rxq`, oldest byte first (R44). -/
  rxq : List Byte
  /-- `tx_trace`, oldest byte first (R45). -/
  txTrace : List Byte
  /-- `ev_trace`, oldest event first (R47). -/
  evTrace : List Event
  /-- `now`, the clock input, W bits (R46). -/
  now : Nat
  /-- `cfg_hb_interval`, the configuration input, W bits (R48). -/
  cfgHbInterval : Nat
  /-- The host's handlers, one per callback still to come (R49, log 5). -/
  handlers : List (List CmdWord)
  /-- The answers given on the response port, oldest first (R101, log 12). -/
  rspTrace : List Response
  /-- What the agents do next, in order (log 3). -/
  inputs : List Input
deriving DecidableEq, Repr

/-- The launch state of a block with a given configuration (R320, R323). The inputs `now` and `cfg_hb_interval` are the
environment's (log 4). -/
def State.resetWith (c : Config) : State :=
  { cfg := c
    rxLength := 0, rxFeature := 0, rxChecksum := 0, rxData := []
    txLength := 0, txFeature := 0, txChecksum := 0, txData := []
    receiveCount := 0, receiving := false
    configured := false, heartbeatDead := false
    hbInterval := 0, lastMessageTime := 0, lastHeartbeatTime := 0
    failedCount := 0, successCount := 0
    sendCursor := 0, receiveCursor := 0, acc := 0
    rxq := [], txTrace := [], evTrace := []
    now := 0, cfgHbInterval := 0
    handlers := [], rspTrace := [], inputs := [] }

/-- The launch state in the reference configuration (log 1). -/
def State.reset : State := .resetWith .reference

end Sys2Proof.Machine
end

