-- ==== Sys2Proof/Machine/Memory.lean ====
section
/-! DEFINITION. The payload buffers: reading and writing one byte of the canonical form, and the primitives MemRead and
MemWrite of 00_scope.md R13, which are defined only inside `0 .. CAP-1`. -/

namespace Sys2Proof.Machine

/-- The byte at an index: BLANK where nothing is listed. -/
def Memory.read (m : Memory) (i : Nat) : Byte :=
  match m with
  | [] => BLANK
  | (k, v) :: rest => if k = i then v else Memory.read rest i

/-- Writes one byte, keeping the canonical form: writing BLANK removes the entry. -/
def Memory.write (m : Memory) (i : Nat) (v : Byte) : Memory :=
  match m with
  | [] => if v = BLANK then [] else [(i, v)]
  | (k, x) :: rest =>
    if i < k then (if v = BLANK then (k, x) :: rest else (i, v) :: (k, x) :: rest)
    else if i = k then (if v = BLANK then rest else (i, v) :: rest)
    else (k, x) :: Memory.write rest i v

/-- The canonical form: indexes strictly rising, no entry equal to BLANK. -/
def Memory.wf : Memory → Bool
  | [] => true
  | (k, v) :: rest => decide (v ≠ BLANK) && rest.all (fun c => decide (k < c.1)) && Memory.wf rest

/-- Every listed index is below the capacity (R68, R69). -/
def Memory.within (cap : Nat) (m : Memory) : Bool := m.all fun c => decide (c.1 < cap)

/-- The first `n` bytes of a buffer. -/
def Memory.firstBytes (m : Memory) (n : Nat) : List Byte := (List.range n).map fun i => Memory.read m i

/-- `MemRead(buf, i, 1)` (R13). -/
def memRead1 (cap : Nat) (m : Memory) (i : Nat) : Option Byte :=
  if i + 1 ≤ cap then some (m.read i) else none

/-- `MemRead(buf, i, 2)`: the byte at the lower index is the more significant (R13, R60). -/
def memRead2 (cap : Nat) (m : Memory) (i : Nat) : Option Half :=
  if i + 2 ≤ cap then some (joinBytes (m.read i) (m.read (i + 1))) else none

/-- `MemWrite(buf, i, 1, v)` (R13). -/
def memWrite1 (cap : Nat) (m : Memory) (i : Nat) (v : Byte) : Option Memory :=
  if i + 1 ≤ cap then some (m.write i v) else none

/-- `MemWrite(buf, i, 2, v)`: `buf[i] <- v[15:8]`, `buf[i+1] <- v[7:0]` (R13, R60). -/
def memWrite2 (cap : Nat) (m : Memory) (i : Nat) (v : Half) : Option Memory :=
  if i + 2 ≤ cap then some ((m.write i (hiByte v)).write (i + 1) (loByte v)) else none

/-- The payload `buf[0 .. n-1]`, defined where the buffer has `n` bytes. -/
def memPrefix (cap : Nat) (m : Memory) (n : Nat) : Option (List Byte) :=
  if n ≤ cap then some (m.firstBytes n) else none

/-- The least index below `n` that holds BLANK, or `n` if there is none, looking from index `i` (R194). -/
def Memory.firstBlankFrom (m : Memory) (i : Nat) : Nat → Nat
  | 0 => i
  | n + 1 => if m.read i = BLANK then i else Memory.firstBlankFrom m (i + 1) n

/-- The least `i` in `0 .. cap-1` with `buf[i] = BLANK`, or `cap` if there is none (R194). -/
def Memory.firstBlank (cap : Nat) (m : Memory) : Nat := m.firstBlankFrom 0 cap

end Sys2Proof.Machine
end

