-- ==== Sys2Proof/Machine/Flags.lean ====
section
/-! DEFINITION. The flags and the time tests: STATUS as RDREG reads it (10_state.md R41), the wrap-safe elapsed time
(00_scope.md R11, 40_codec.md R133) and the conditions of TIMEOUTCHK, HBTICK and ISALIVE (43_heartbeat.md). -/

namespace Sys2Proof.Machine

/-- `elapsed(a, b) = (a - b) mod 2^W` (R11). -/
def elapsed (c : Config) (a b : Nat) : Nat :=
  (a + (2 ^ c.clockWidth - b % 2 ^ c.clockWidth)) % 2 ^ c.clockWidth

/-- STATUS: bit 0 configured, bit 1 receiving, bit 2 heartbeatDead (R41). -/
def statusFlags (s : State) : Nat :=
  s.configured.toNat + 2 * s.receiving.toNat + 4 * s.heartbeatDead.toNat

/-- The time since the last consumed byte. -/
def silence (s : State) : Nat := elapsed s.cfg s.now s.lastMessageTime

/-- The condition of TIMEOUTCHK (R220): strict, and only inside a frame. -/
def timeoutExpired (s : State) : Bool :=
  s.configured && s.receiving && decide (s.cfg.timeoutMs < silence s)

/-- When HBTICK runs at all (R221). -/
def heartbeatActive (s : State) : Bool :=
  decide (s.hbInterval ≠ 0) && s.configured && !s.heartbeatDead

/-- When a HELO is due, for a silence of `e` (R222): both comparisons strict. -/
def heloDue (e : Nat) (s : State) : Bool :=
  decide (s.hbInterval < e) && decide (s.hbInterval < elapsed s.cfg s.now s.lastHeartbeatTime)

/-- When the link is dead, for a silence of `e` (R223): the product is exact (R141). -/
def linkDead (e : Nat) (s : State) : Bool := decide (DEAD_FACTOR * s.hbInterval < e)

/-- The liveness query (R225). -/
def linkAlive (s : State) : Bool := decide (silence s < s.hbInterval)

/-- The largest legal heartbeat interval (R228). -/
def hbLimit (c : Config) : Nat := (2 ^ c.clockWidth - 1) / DEAD_FACTOR

end Sys2Proof.Machine
end

