-- ==== Sys2Proof/Machine/Operands.lean ====
section
/-! DEFINITION. Operands the host reads: the feature set (40_codec.md R140) and the registers of RDREG (10_state.md R41),
zero-extended to the response. -/

namespace Sys2Proof.Machine

/-- The feature set `feature - (feature mod 16)`, that is `feature AND 0xF0` (R140). -/
def featureSet (f : Byte) : Byte := f &&& 0xF0

/-- The value RDREG reads from a register, zero-extended (R41, R246). -/
def readReg (r : Reg) (s : State) : Nat :=
  match r with
  | .rxLength => s.rxLength.toNat
  | .rxFeature => s.rxFeature.toNat
  | .rxChecksum => s.rxChecksum.toNat
  | .rxFeatureSet => (featureSet s.rxFeature).toNat
  | .receiveCursor => s.receiveCursor.toNat
  | .receiveCount => s.receiveCount.toNat
  | .txLength => s.txLength.toNat
  | .txFeature => s.txFeature.toNat
  | .txChecksum => s.txChecksum.toNat
  | .txFeatureSet => (featureSet s.txFeature).toNat
  | .sendCursor => s.sendCursor.toNat
  | .status => statusFlags s
  | .failedCount => s.failedCount
  | .successCount => s.successCount
  | .hbInterval => s.hbInterval
  | .lastMessageTime => s.lastMessageTime
  | .lastHeartbeatTime => s.lastHeartbeatTime

end Sys2Proof.Machine
end

