-- ==== Sys2Proof/Machine/Ops.lean ====
section
/-! DEFINITION. The shared operations: outcomes in sequence, responses (30_encoding.md R101), the TX stream (10_state.md
R45), the counters (40_codec.md R139), the procedures PurgeRx, PurgeTx, SendStatus, Checksum and EmitFrame (40_codec.md
R134 to R138), and the one way a bad data frame ends. The block has no trap: what a rule raises is a label, and its whole
effect is written out here (R14, R290). -/

namespace Sys2Proof.Machine

/-- What a meaning answers. -/
abbrev Result := Host.Outcome State Fault Refusal

/-- Runs `f` after an outcome that goes on. -/
def andThen (o : Result) (f : State → Result) : Result :=
  match o with
  | .next s => f s
  | .fault r => .fault r
  | .refused r => .refused r

/-- Goes on with the value of a buffer access, which faults where its index does not exist (R13, R68). -/
def orFault {α : Type} (o : Option α) (f : α → Result) : Result :=
  match o with
  | some v => f v
  | none => .fault .bufferIndex

/-- Puts an answer on the response port. -/
def answer (r : Response) (s : State) : State := { s with rspTrace := s.rspTrace ++ [r] }

/-- `respond ACCEPT(v)` (R14, R101). -/
def accept (v : Nat) (s : State) : Result := .next (answer ⟨true, v⟩ s)

/-- `respond REJECT` (R14, R101): nothing but the answer. -/
def reject (s : State) : Result := .next (answer ⟨false, 0⟩ s)

/-- `TxWrite(b)` (R13, R45). -/
def txWrite (b : Byte) (s : State) : State := { s with txTrace := s.txTrace ++ [b] }

/-- `failedCount <- (failedCount + 1) mod 2^CW` (R139). -/
def countFailed (s : State) : State := { s with failedCount := (s.failedCount + 1) % 2 ^ s.cfg.counterWidth }

/-- `successCount <- (successCount + 1) mod 2^CW` (R139). -/
def countSuccess (s : State) : State := { s with successCount := (s.successCount + 1) % 2 ^ s.cfg.counterWidth }

/-- `PurgeRx()` (R134). -/
def purgeRx (s : State) : State :=
  { s with
    rxLength := 0, rxFeature := 0, rxChecksum := 0, rxData := []
    receiving := false, receiveCount := 0, receiveCursor := 0, acc := 0 }

/-- `PurgeTx()` (R135). -/
def purgeTx (s : State) : State :=
  { s with txLength := 0, txFeature := 0, txChecksum := 0, txData := [], sendCursor := 0 }

/-- `SendStatus(c)` (R136). -/
def sendStatus (c : Byte) (s : State) : State :=
  if s.configured then txWrite c (txWrite MARKER s) else s

/-- `(256 - (length + feature + Σ data) mod 256) mod 256` (R131). -/
def checksum (l f : Byte) (payload : List Byte) : Byte :=
  BitVec.ofNat 8 ((256 - (byteSum (l :: f :: payload)).toNat) % 256)

/-- Writes bytes to the TX stream in order (R76). -/
def txWriteAll (bs : List Byte) (s : State) : State := { s with txTrace := s.txTrace ++ bs }

/-- `EmitFrame()` (R137, R138): the checksum, the frame, then the purge. -/
def emitFrame (s : State) : Result :=
  orFault (memPrefix s.cfg.cap s.txData s.txLength.toNat) fun payload =>
    let s := { s with txChecksum := checksum s.txLength s.txFeature payload }
    .next (purgeTx (txWriteAll (dataBytes s.txLength s.txFeature s.txChecksum payload) s))

/-- The end of a bad data frame (R166, R167): NACK, purge, failure counter, in that order. -/
def rejectFrame (s : State) : State := countFailed (purgeRx (sendStatus s.cfg.stNack s))

/-- The state the reset event leaves (R320, R321): every register at its reset value. The RX queue, the traces and the
inputs belong to the environment and stay. -/
def resetCore (s : State) : State :=
  { State.resetWith s.cfg with
    rxq := s.rxq, txTrace := s.txTrace, evTrace := s.evTrace
    now := s.now, cfgHbInterval := s.cfgHbInterval
    handlers := s.handlers, rspTrace := s.rspTrace, inputs := s.inputs }

end Sys2Proof.Machine
end

