-- ==== Sys2Proof/Machine/HostCommands.lean ====
section
/-! DEFINITION. The host commands that set up and read (44_host.md, 43_heartbeat.md R225): NOP, CONNECT, RXGETB, RXGETW,
RDREG with each of its selectors, ISALIVE, and the undefined opcode. -/

namespace Sys2Proof.Machine

/-- NOP (R241). -/
def execNop (s : State) : Result := accept 0 s

/-- CONNECT (R242): rejected where the link is configured already or the interval is too large (R228). -/
def execConnect (s : State) : Result :=
  if s.configured then reject s
  else if hbLimit s.cfg < s.cfgHbInterval then reject s
  else accept 0
    { s with
      hbInterval := s.cfgHbInterval
      lastMessageTime := s.now
      lastHeartbeatTime := s.now
      heartbeatDead := false
      configured := true }

/-- RXGETB (R244): the bound is CAP, not the length. -/
def execRxgetb (s : State) : Result :=
  if s.cfg.cap < s.receiveCursor.toNat + 1 then reject s
  else orFault (memRead1 s.cfg.cap s.rxData s.receiveCursor.toNat) fun v =>
    accept v.toNat { s with receiveCursor := s.receiveCursor + 1 }

/-- RXGETW (R245): both bytes or neither. -/
def execRxgetw (s : State) : Result :=
  if s.cfg.cap < s.receiveCursor.toNat + 2 then reject s
  else orFault (memRead2 s.cfg.cap s.rxData s.receiveCursor.toNat) fun w =>
    accept w.toNat { s with receiveCursor := s.receiveCursor + 2 }

/-- Answers the value of a register (R246). -/
def answerReg (r : Reg) (s : State) : Result := accept (readReg r s) s

/-- RDREG s (R246, R247): a selector outside the table of R41 is rejected. -/
def execRdreg (sel : Byte) (s : State) : Result :=
  match Reg.ofSelector sel with
  | some r => answerReg r s
  | none => reject s

/-- RDREG 0x00 (R41). -/
def execRdregRxLength (s : State) : Result := answerReg .rxLength s

/-- RDREG 0x01 (R41). -/
def execRdregRxFeature (s : State) : Result := answerReg .rxFeature s

/-- RDREG 0x02 (R41). -/
def execRdregRxChecksum (s : State) : Result := answerReg .rxChecksum s

/-- RDREG 0x03 (R41, R140). -/
def execRdregRxFeatureset (s : State) : Result := answerReg .rxFeatureSet s

/-- RDREG 0x04 (R41). -/
def execRdregReceivecursor (s : State) : Result := answerReg .receiveCursor s

/-- RDREG 0x05 (R41). -/
def execRdregReceivecount (s : State) : Result := answerReg .receiveCount s

/-- RDREG 0x10 (R41). -/
def execRdregTxLength (s : State) : Result := answerReg .txLength s

/-- RDREG 0x11 (R41). -/
def execRdregTxFeature (s : State) : Result := answerReg .txFeature s

/-- RDREG 0x12 (R41). -/
def execRdregTxChecksum (s : State) : Result := answerReg .txChecksum s

/-- RDREG 0x13 (R41, R140). -/
def execRdregTxFeatureset (s : State) : Result := answerReg .txFeatureSet s

/-- RDREG 0x14 (R41). -/
def execRdregSendcursor (s : State) : Result := answerReg .sendCursor s

/-- RDREG 0x20 (R41). -/
def execRdregStatus (s : State) : Result := answerReg .status s

/-- RDREG 0x21 (R41). -/
def execRdregFailedcount (s : State) : Result := answerReg .failedCount s

/-- RDREG 0x22 (R41). -/
def execRdregSuccesscount (s : State) : Result := answerReg .successCount s

/-- RDREG 0x30 (R41). -/
def execRdregHbInterval (s : State) : Result := answerReg .hbInterval s

/-- RDREG 0x31 (R41). -/
def execRdregLastmessagetime (s : State) : Result := answerReg .lastMessageTime s

/-- RDREG 0x32 (R41). -/
def execRdregLastheartbeattime (s : State) : Result := answerReg .lastHeartbeatTime s

/-- ISALIVE (R225). -/
def execIsalive (s : State) : Result := accept (linkAlive s).toNat s

/-- UNDEFINED: opcode 0xF (R247). -/
def execUndefined (s : State) : Result := reject s

end Sys2Proof.Machine
end

