-- ==== Sys2Proof/Machine/Send.lean ====
section
/-! DEFINITION. The send assembler (42_send.md): TXFEATURE, TXBYTE, TXWORD, TXLENAUTO, TXSEND, TXSENDB, TXSENDW, TXPURGE. -/

namespace Sys2Proof.Machine

/-- The end of an append (R192, R193, R199): the cursor moves past the bytes written and the length is lifted to it. -/
def appended (n : Nat) (m : Memory) (s : State) : State :=
  let cursor := s.sendCursor + BitVec.ofNat 8 n
  { s with
    txData := m
    sendCursor := cursor
    txLength := if s.txLength < cursor then cursor else s.txLength }

/-- The body of TXSEND (R195): no effect at all where the link is not configured. -/
def sendMessage (s : State) : Result :=
  if s.configured then andThen (emitFrame s) (accept 0) else accept 0 s

/-- TXFEATURE f (R191). -/
def execTxfeature (f : Byte) (s : State) : Result := accept 0 { s with txFeature := f }

/-- TXBYTE v (R192, R200). -/
def execTxbyte (v : Byte) (s : State) : Result :=
  if s.cfg.cap < s.sendCursor.toNat + 1 then reject s
  else orFault (memWrite1 s.cfg.cap s.txData s.sendCursor.toNat v) fun m => accept 0 (appended 1 m s)

/-- TXWORD w (R193, R200): both bytes or neither. -/
def execTxword (w : Half) (s : State) : Result :=
  if s.cfg.cap < s.sendCursor.toNat + 2 then reject s
  else orFault (memWrite2 s.cfg.cap s.txData s.sendCursor.toNat w) fun m => accept 0 (appended 2 m s)

/-- TXLENAUTO (R194). -/
def execTxlenauto (s : State) : Result :=
  accept 0 { s with txLength := BitVec.ofNat 8 (s.txData.firstBlank s.cfg.cap) }

/-- TXSEND (R195). -/
def execTxsend (s : State) : Result := sendMessage s

/-- TXSENDB f, v (R196): builds a one-byte message, without a purge first, and sends it. -/
def execTxsendb (f v : Byte) (s : State) : Result :=
  orFault (memWrite1 s.cfg.cap s.txData 0 v) fun m =>
    sendMessage { s with txFeature := f, txData := m, txLength := 1, sendCursor := 1 }

/-- TXSENDW f, w (R197): rejected whole where the buffer has one byte only. -/
def execTxsendw (f : Byte) (w : Half) (s : State) : Result :=
  if s.cfg.cap < 2 then reject s
  else orFault (memWrite2 s.cfg.cap s.txData 0 w) fun m =>
    sendMessage { s with txFeature := f, txData := m, txLength := 2, sendCursor := 2 }

/-- TXPURGE (R198). -/
def execTxpurge (s : State) : Result := accept 0 (purgeTx s)

end Sys2Proof.Machine
end

