-- ==== Sys2Proof/Machine/Handler.lean ====
section
/-! DEFINITION. Callbacks: the commands of a host handler (44_host.md R248) and `emit`, which records the event and runs the
handler before the step goes on (10_state.md R49, 60_exceptions.md R292). -/

namespace Sys2Proof.Machine

/-- A command inside a handler acts as its own rule says; POLL has no meaning there (R248, U3). -/
def handlerCommand (c : Command) (s : State) : Result :=
  match c with
  | .nop => execNop s
  | .connect => execConnect s
  | .poll => .refused .pollInHandler
  | .txfeature f => execTxfeature f s
  | .txbyte v => execTxbyte v s
  | .txword w => execTxword w s
  | .txlenauto => execTxlenauto s
  | .txsend => execTxsend s
  | .txsendb f v => execTxsendb f v s
  | .txsendw f w => execTxsendw f w s
  | .txpurge => execTxpurge s
  | .rxgetb => execRxgetb s
  | .rxgetw => execRxgetw s
  | .rdreg sel => execRdreg sel s
  | .isalive => execIsalive s
  | .undefined => execUndefined s

/-- A handler: its commands in order. -/
def runHandler : List CmdWord → State → Result
  | [], s => .next s
  | w :: rest, s => andThen (handlerCommand (commandOf w) s) (runHandler rest)

/-- `emit`: the event enters the trace, then the host's next handler runs, the empty one where the host has given none
(R13, R49, log 5). -/
def emit (e : Event) (s : State) : Result :=
  match s.handlers with
  | [] => .next { s with evTrace := s.evTrace ++ [e] }
  | h :: rest => runHandler h { s with evTrace := s.evTrace ++ [e], handlers := rest }

end Sys2Proof.Machine
end

