-- ==== Sys2Proof/Machine/Receive.lean ====
section
/-! DEFINITION. The receive state machine (41_receive.md): the micro-step RXBYTE. -/

namespace Sys2Proof.Machine

/-- The arms of RXBYTE (R150). -/
inductive RxArm where
  | start
  | violation
  | status
  | overflow
  | length
  | feature
  | checksum
  | payload
deriving DecidableEq, Repr

/-- The arm chosen by `receiving`, `receiveCount` and the byte (R150, R154). -/
def rxArm (b : Byte) (s : State) : RxArm :=
  if s.receiving = false then
    if b = MARKER then .start else .violation
  else if s.receiveCount = 0 then
    match frameKind s.cfg b with
    | .status => .status
    | .tooLong => .overflow
    | .data => .length
  else if s.receiveCount = 1 then .feature
  else if s.receiveCount = 2 then .checksum
  else .payload

/-- The prologue of every consumed byte (R151). -/
def rxPrologue (s : State) : State := { s with lastMessageTime := s.now, heartbeatDead := false }

/-- Arm START (R152). -/
def armStart (s : State) : State := { purgeRx s with receiving := true, receiveCount := 0 }

/-- Arm VIOLATION (R153). -/
def armViolation (s : State) : State := countFailed (purgeRx s)

/-- Arm STATUS (R158): the core's own status handler answers HELO (R163), then the callback, then the purge. -/
def armStatus (b : Byte) (s : State) : Result :=
  let s := if b = ST_HELO then sendStatus s.cfg.stAck s else s
  andThen (emit (.onStatus b) s) fun s => .next (purgeRx s)

/-- Arm VALID (R162): ACK, callback, purge, success counter. -/
def armValid (s : State) : Result :=
  orFault (memPrefix s.cfg.cap s.rxData s.rxLength.toNat) fun payload =>
    andThen (emit (.onMessage s.rxLength s.rxFeature s.rxChecksum payload) (sendStatus s.cfg.stAck s)) fun s =>
      .next (countSuccess (purgeRx s))

/-- Completion (R161): the checksum decides. -/
def complete (s : State) : Result := if s.acc = 0 then armValid s else .next (rejectFrame s)

/-- The accumulator and the position after a stored byte (R160). -/
def rxAdvance (b : Byte) (s : State) : State :=
  { s with acc := s.acc + b, receiveCount := s.receiveCount + 1 }

/-- Whether the frame is complete (R161). -/
def frameComplete (s : State) : Bool := decide (s.receiveCount.toNat = s.rxLength.toNat + HEADER)

/-- The tail common to LENGTH, FEATURE, CHECKSUM and PAYLOAD (R160). -/
def rxTail (b : Byte) (s : State) : Result :=
  let s := rxAdvance b s
  if frameComplete s then complete s else .next s

/-- What the arms LENGTH, FEATURE and CHECKSUM store (R155 to R157). -/
def storeHeader (a : RxArm) (b : Byte) (s : State) : State :=
  match a with
  | .length => { s with rxLength := b, receiveCursor := 0 }
  | .feature => { s with rxFeature := b }
  | .checksum => { s with rxChecksum := b }
  | .start | .violation | .status | .overflow | .payload => s

/-- Arm PAYLOAD (R159): `rx_data[receiveCount - 3] <- b`. -/
def armPayload (b : Byte) (s : State) : Result :=
  orFault (memWrite1 s.cfg.cap s.rxData (s.receiveCount.toNat - HEADER) b) fun m =>
    rxTail b { s with rxData := m }

/-- RXBYTE(b): the prologue and then one arm (R150). -/
def rxByte (b : Byte) (s : State) : Result :=
  let s := rxPrologue s
  match rxArm b s with
  | .start => .next (armStart s)
  | .violation => .next (armViolation s)
  | .status => armStatus b s
  | .overflow => .next (rejectFrame s)
  | .length => rxTail b (storeHeader .length b s)
  | .feature => rxTail b (storeHeader .feature b s)
  | .checksum => rxTail b (storeHeader .checksum b s)
  | .payload => armPayload b s

/-- The micro-step RXBYTE as an instruction (R150). -/
def execRxbyte (b : Byte) (s : State) : Result := rxByte b s

/-- Bytes consumed one by one, in order (R75). -/
def feed : List Byte → State → Result
  | [], s => .next s
  | b :: rest, s => andThen (rxByte b s) (feed rest)

end Sys2Proof.Machine
end

