-- ==== Sys2Proof/Machine/Frames.lean ====
section
/-! DEFINITION. The wire frames and stream bytes as instructions (00_scope.md R4, 30_encoding.md R102, R103): each is the
receive state machine consuming the instruction's bytes in order (log 8). -/

namespace Sys2Proof.Machine

/-- DATA (R162). -/
def execData (l f k : Byte) (payload : List Byte) (s : State) : Result := feed (dataBytes l f k payload) s

/-- DATA.MISMATCH (R167). -/
def execDataMismatch (l f k : Byte) (payload : List Byte) (s : State) : Result := feed (dataBytes l f k payload) s

/-- DATA.OVERFLOW (R166): the frame is refused at its length byte. -/
def execDataOverflow (l : Byte) (s : State) : Result := feed [MARKER, l] s

/-- STATUS (R158): any code. -/
def execStatus (c : Nibble) (s : State) : Result := feed (statusBytes (statusCode c)) s

/-- HELO (R163). -/
def execHelo (s : State) : Result := feed (statusBytes ST_HELO) s

/-- ACK (R164). -/
def execAck (c : Nibble) (s : State) : Result := feed (statusBytes (statusCode c)) s

/-- NACK (R164). -/
def execNack (c : Nibble) (s : State) : Result := feed (statusBytes (statusCode c)) s

/-- FAIL (R164). -/
def execFail (c : Nibble) (s : State) : Result := feed (statusBytes (statusCode c)) s

/-- STATUS.RESERVED (R165). -/
def execStatusReserved (c : Nibble) (s : State) : Result := feed (statusBytes (statusCode c)) s

/-- STRAY (R153). -/
def execStray (b : Byte) (s : State) : Result := feed [b] s

/-- MARKER (R152). -/
def execMarker (s : State) : Result := feed [MARKER] s

end Sys2Proof.Machine
end

