-- ==== Sys2Proof/Machine/Timers.lean ====
section
/-! DEFINITION. The timer micro-steps (43_heartbeat.md) and POLL (44_host.md R243). -/

namespace Sys2Proof.Machine

/-- TIMEOUTCHK (R220): the purge, then the NACK; no counter. -/
def timeoutCheck (s : State) : State :=
  if timeoutExpired s then sendStatus s.cfg.stNack (purgeRx s) else s

/-- The HELO of HBTICK, for a silence of `e` (R222). -/
def heloTick (e : Nat) (s : State) : State :=
  if heloDue e s then { sendStatus ST_HELO s with lastHeartbeatTime := s.now } else s

/-- The dead mark of HBTICK, for a silence of `e` (R223). -/
def deadTick (e : Nat) (s : State) : State :=
  if linkDead e s then { s with heartbeatDead := true } else s

/-- HBTICK (R221, R224): one elapsed time, the HELO test before the dead test. -/
def heartbeatTick (s : State) : State :=
  if heartbeatActive s then deadTick (silence s) (heloTick (silence s) s) else s

/-- TIMEOUTCHK as an instruction (R220). -/
def execTimeoutchk (s : State) : Result := .next (timeoutCheck s)

/-- HBTICK as an instruction (R221). -/
def execHbtick (s : State) : Result := .next (heartbeatTick s)

/-- The drain of POLL: while a byte waits, RxRead() and RXBYTE (R243). -/
def drain : List Byte → State → Result
  | [], s => .next s
  | b :: rest, s => andThen (rxByte b { s with rxq := rest }) (drain rest)

/-- POLL (R243): nothing where the link is not configured; otherwise drain, timeout, heartbeat, all at one `now`. -/
def execPoll (s : State) : Result :=
  if s.configured then
    andThen (drain s.rxq s) fun s => accept 0 (heartbeatTick (timeoutCheck s))
  else accept 0 s

end Sys2Proof.Machine
end

