-- ==== Sys2Proof/Machine/Dispatch.lean ====
section
/-! DEFINITION. The meaning of each instruction, one arm per constructor. -/

namespace Sys2Proof.Machine

def exec (i : Instr) (s : State) : Host.Outcome State Fault Refusal :=
  match i with
  | .data l f k payload => Sys2Proof.Machine.execData l f k payload s
  | .dataMismatch l f k payload => Sys2Proof.Machine.execDataMismatch l f k payload s
  | .dataOverflow l => Sys2Proof.Machine.execDataOverflow l s
  | .status c => Sys2Proof.Machine.execStatus c s
  | .helo => Sys2Proof.Machine.execHelo s
  | .ack c => Sys2Proof.Machine.execAck c s
  | .nack c => Sys2Proof.Machine.execNack c s
  | .fail c => Sys2Proof.Machine.execFail c s
  | .statusReserved c => Sys2Proof.Machine.execStatusReserved c s
  | .stray b => Sys2Proof.Machine.execStray b s
  | .marker => Sys2Proof.Machine.execMarker s
  | .nop => Sys2Proof.Machine.execNop s
  | .connect => Sys2Proof.Machine.execConnect s
  | .poll => Sys2Proof.Machine.execPoll s
  | .txfeature f => Sys2Proof.Machine.execTxfeature f s
  | .txbyte v => Sys2Proof.Machine.execTxbyte v s
  | .txword w => Sys2Proof.Machine.execTxword w s
  | .txlenauto => Sys2Proof.Machine.execTxlenauto s
  | .txsend => Sys2Proof.Machine.execTxsend s
  | .txsendb f v => Sys2Proof.Machine.execTxsendb f v s
  | .txsendw f w => Sys2Proof.Machine.execTxsendw f w s
  | .txpurge => Sys2Proof.Machine.execTxpurge s
  | .rxgetb => Sys2Proof.Machine.execRxgetb s
  | .rxgetw => Sys2Proof.Machine.execRxgetw s
  | .rdreg sel => Sys2Proof.Machine.execRdreg sel s
  | .rdregRxLength => Sys2Proof.Machine.execRdregRxLength s
  | .rdregRxFeature => Sys2Proof.Machine.execRdregRxFeature s
  | .rdregRxChecksum => Sys2Proof.Machine.execRdregRxChecksum s
  | .rdregRxFeatureset => Sys2Proof.Machine.execRdregRxFeatureset s
  | .rdregReceivecursor => Sys2Proof.Machine.execRdregReceivecursor s
  | .rdregReceivecount => Sys2Proof.Machine.execRdregReceivecount s
  | .rdregTxLength => Sys2Proof.Machine.execRdregTxLength s
  | .rdregTxFeature => Sys2Proof.Machine.execRdregTxFeature s
  | .rdregTxChecksum => Sys2Proof.Machine.execRdregTxChecksum s
  | .rdregTxFeatureset => Sys2Proof.Machine.execRdregTxFeatureset s
  | .rdregSendcursor => Sys2Proof.Machine.execRdregSendcursor s
  | .rdregStatus => Sys2Proof.Machine.execRdregStatus s
  | .rdregFailedcount => Sys2Proof.Machine.execRdregFailedcount s
  | .rdregSuccesscount => Sys2Proof.Machine.execRdregSuccesscount s
  | .rdregHbInterval => Sys2Proof.Machine.execRdregHbInterval s
  | .rdregLastmessagetime => Sys2Proof.Machine.execRdregLastmessagetime s
  | .rdregLastheartbeattime => Sys2Proof.Machine.execRdregLastheartbeattime s
  | .isalive => Sys2Proof.Machine.execIsalive s
  | .undefined => Sys2Proof.Machine.execUndefined s
  | .rxbyte b => Sys2Proof.Machine.execRxbyte b s
  | .timeoutchk => Sys2Proof.Machine.execTimeoutchk s
  | .hbtick => Sys2Proof.Machine.execHbtick s

end Sys2Proof.Machine
end

