-- ==== Sys2Proof/Machine/Fetch.lean ====
section
/-! DEFINITION. Where the next instruction comes from (log 3): the head of `inputs` is what an agent does now. An input of
the environment changes an input field; a command word, or the next wire instruction of the RX queue, is decoded and run. -/

namespace Sys2Proof.Machine

/-- What a step is to do. -/
inductive Fetched where
  /-- Nothing is left to run: the step ends here. -/
  | settled (s : State)
  /-- An instruction, and the state it runs in. -/
  | run (i : Instr) (s : State)
deriving DecidableEq, Repr

/-- The next wire instruction of the RX queue: nothing is read where the link is not configured or the queue is empty
(R30, R243). -/
def fetchWire (s : State) : Fetched :=
  if s.configured then
    match decodeStream s.cfg s.receiving s.rxq with
    | .instr i rest => .run i { s with rxq := rest }
    | .reject _ => .settled s
  else .settled s

/-- One input (R288). Clock and strap values are W-bit inputs (R46, R48). -/
def takeInput (x : Input) (s : State) : Fetched :=
  match x with
  | .arrive b => .settled { s with rxq := s.rxq ++ [b] }
  | .clock t => .settled { s with now := t % 2 ^ s.cfg.clockWidth }
  | .strap v => .settled { s with cfgHbInterval := v % 2 ^ s.cfg.clockWidth }
  | .handler h => .settled { s with handlers := s.handlers ++ [h] }
  | .command w => .run (decodeCommand w) s
  | .receive => fetchWire s
  | .timeoutchk => .run .timeoutchk s
  | .hbtick => .run .hbtick s
  | .reset => .settled (resetCore s)

/-- The head of the inputs; with none left the block holds its state and does nothing (R299). -/
def fetch (s : State) : Fetched :=
  match s.inputs with
  | [] => .settled s
  | x :: rest => takeInput x { s with inputs := rest }

/-- Places a word of the opcode table where `fetch` finds it: a command word on the command port; bytes of the wire in the
RX queue of a configured link in IDLE, to be consumed now (log 14). -/
def placeWord (s : State) (nbits w : Nat) : State :=
  match tableEncoded s.cfg nbits w with
  | some (.command cw) => { s with inputs := .command cw :: s.inputs }
  | some (.stream bs) =>
    { s with configured := true, receiving := false, rxq := bs, inputs := .receive :: s.inputs }
  | none => s

end Sys2Proof.Machine
end

