-- ==== Sys2Proof/Machine/Errors.lean ====
section
/-! DEFINITION. The five error kinds (60_exceptions.md R280) as labels: which one a byte, a timer test or a host command
raises. Nothing in the block records them (R14, R280, R286); their effects are in the meanings. -/

namespace Sys2Proof.Machine

/-- The error kinds of R280. -/
inductive ErrorKind where
  | checksumMismatch
  | framingViolation
  | frameTimeout
  | linkNotConfigured
  | bufferOverflow
deriving DecidableEq, Repr

/-- The state in which the tail of RXBYTE tests for completion, for the arms that store a byte (R160). -/
def storedHeader (b : Byte) (s : State) : State := rxAdvance b (storeHeader (rxArm b s) b s)

/-- The error a received byte raises (R153, R166, R167): at most one (R289). -/
def errorOfByte (b : Byte) (s : State) : Option ErrorKind :=
  match rxArm b s with
  | .violation => some .framingViolation
  | .overflow => some .bufferOverflow
  | .start | .status => none
  | .length | .feature | .checksum | .payload =>
    if frameComplete (storedHeader b s) && decide ((storedHeader b s).acc ≠ 0) then some .checksumMismatch else none

/-- The error TIMEOUTCHK raises (R220). -/
def errorOfTimeout (s : State) : Option ErrorKind := if timeoutExpired s then some .frameTimeout else none

/-- The error a host command raises of itself (R195 to R197, R200, R244, R245). -/
def errorOfCommand (c : Command) (s : State) : Option ErrorKind :=
  match c with
  | .txbyte _ => if s.cfg.cap < s.sendCursor.toNat + 1 then some .bufferOverflow else none
  | .txword _ => if s.cfg.cap < s.sendCursor.toNat + 2 then some .bufferOverflow else none
  | .txsend => if s.configured then none else some .linkNotConfigured
  | .txsendb _ _ => if s.configured then none else some .linkNotConfigured
  | .txsendw _ _ =>
    if s.cfg.cap < 2 then some .bufferOverflow else if s.configured then none else some .linkNotConfigured
  | .rxgetb => if s.cfg.cap < s.receiveCursor.toNat + 1 then some .bufferOverflow else none
  | .rxgetw => if s.cfg.cap < s.receiveCursor.toNat + 2 then some .bufferOverflow else none
  | .nop | .connect | .poll | .txfeature _ | .txlenauto | .txpurge | .rdreg _ | .isalive | .undefined => none

end Sys2Proof.Machine
end

