-- ==== Sys2Proof/WellFormed.lean ====
section
/-! DEFINITION. Which terms of `Instr` are instructions of a block with a given configuration: the conditions of
opcode_table.json. A term is well-formed exactly when it is the decoder's own form of its words, so the generic rows give
way to the particular ones: no `.status` is well-formed, and `.rdreg s` only with a selector outside R41 (log 10). -/

namespace Sys2Proof

/-- The conditions of DATA and DATA.MISMATCH but for the sum: the length counts the payload (R96) and the buffer holds
it (R91, R102). -/
def dataShape (c : Config) (l : Byte) (payload : List Byte) : Bool :=
  decide (payload.length = l.toNat) && decide (l.toNat ≤ c.cap)

/-- The condition of each row (column `condition` of opcode_table.json). -/
def Instr.wf (c : Config) : Instr → Bool
  | .data l f k p => dataShape c l p && decide (frameSum l f k p = 0)
  | .dataMismatch l f k p => dataShape c l p && decide (frameSum l f k p ≠ 0)
  | .dataOverflow l => decide (c.cap < l.toNat) && decide (l < STATUS_MIN)
  | .status _ => false
  | .helo => true
  | .ack n => decide (statusCode n = c.stAck)
  | .nack n => decide (statusCode n = c.stNack)
  | .fail n => decide (statusCode n = c.stFail)
  | .statusReserved n =>
    decide (statusCode n ≠ ST_HELO) && decide (statusCode n ≠ c.stAck)
      && decide (statusCode n ≠ c.stNack) && decide (statusCode n ≠ c.stFail)
  | .stray b => decide (b ≠ MARKER)
  | .rdreg s => decide (Reg.ofSelector s = none)
  | .marker | .nop | .connect | .poll | .txfeature _ | .txbyte _ | .txword _ | .txlenauto | .txsend
  | .txsendb _ _ | .txsendw _ _ | .txpurge | .rxgetb | .rxgetw
  | .rdregRxLength | .rdregRxFeature | .rdregRxChecksum | .rdregRxFeatureset | .rdregReceivecursor
  | .rdregReceivecount | .rdregTxLength | .rdregTxFeature | .rdregTxChecksum | .rdregTxFeatureset
  | .rdregSendcursor | .rdregStatus | .rdregFailedcount | .rdregSuccesscount | .rdregHbInterval
  | .rdregLastmessagetime | .rdregLastheartbeattime | .isalive | .undefined
  | .rxbyte _ | .timeoutchk | .hbtick => true

end Sys2Proof
end

