-- ==== Sys2Proof/Safety.lean ====
section
/-! DEFINITION. What holds of every reachable state, in the spec's own terms, and the words the statements use: the
invariants of the send side, the receive side and the register widths, the purged Messages, and the frames "only this side changes". -/

namespace Sys2Proof.Machine

/-- A payload buffer in canonical form whose every listed index exists (R68, R69). -/
structure Memory.Ok (cap : Nat) (m : Memory) : Prop where
  wf : m.wf = true
  within : m.within cap = true

/-- The send side: the length invariant (R27), the cursor (R38), the checksum register that reads 0 between steps (R26). -/
structure TxInv (s : State) : Prop where
  length : s.txLength.toNat ≤ s.cfg.cap
  cursor : s.sendCursor.toNat ≤ s.cfg.cap
  checksum : s.txChecksum = 0
  data : Memory.Ok s.cfg.cap s.txData

/-- The receive side: the length invariant (R27), the cursor (R39), the position (R28, R29), the fields a frame has not
reached yet (R69, R134), and the accumulator as the sum of what it has (R40). -/
structure RxInv (s : State) : Prop where
  length : s.rxLength.toNat ≤ s.cfg.cap
  cursor : s.receiveCursor.toNat ≤ s.cfg.cap
  data : Memory.Ok s.cfg.cap s.rxData
  idle : s.receiving = false → s.receiveCount = 0
  position : s.receiveCount.toNat < s.rxLength.toNat + HEADER
  beforeLength : s.receiveCount.toNat < 1 → s.rxLength = 0
  beforeFeature : s.receiveCount.toNat < 2 → s.rxFeature = 0
  beforeChecksum : s.receiveCount.toNat < 3 → s.rxChecksum = 0
  blank : ∀ i, s.receiveCount.toNat ≤ i + HEADER → s.rxData.read i = BLANK
  sum : s.acc = frameSum s.rxLength s.rxFeature s.rxChecksum (s.rxData.firstBytes (s.receiveCount.toNat - HEADER))

/-- The widths W and CW of the link registers, the inputs and the responses (R7, R8, R101), and the legal interval (R33,
R228). -/
structure WidthInv (s : State) : Prop where
  interval : s.hbInterval ≤ hbLimit s.cfg
  message : s.lastMessageTime < 2 ^ s.cfg.clockWidth
  heartbeat : s.lastHeartbeatTime < 2 ^ s.cfg.clockWidth
  clock : s.now < 2 ^ s.cfg.clockWidth
  strap : s.cfgHbInterval < 2 ^ s.cfg.clockWidth
  failed : s.failedCount < 2 ^ s.cfg.counterWidth
  success : s.successCount < 2 ^ s.cfg.counterWidth
  responses : ∀ r ∈ s.rspTrace, r.data < 2 ^ s.cfg.responseWidth

/-- The invariant of the machine between two steps. A link that is not configured has read nothing (R30, R243). -/
structure Inv (s : State) : Prop where
  tx : TxInv s
  rx : RxInv s
  width : WidthInv s
  unconfigured : s.configured = false → s.receiving = false ∧ s.hbInterval = 0 ∧ s.heartbeatDead = false

/-- A handler that keeps the host's contract: it holds no POLL (R248, R331). -/
def handlerLegal (h : List CmdWord) : Prop := ∀ w ∈ h, commandOf w ≠ .poll

/-- Every handler the host has ready keeps the contract. -/
def handlersLegal (s : State) : Prop := ∀ h ∈ s.handlers, handlerLegal h

/-- The receive Message is purged and the state machine is IDLE (R134). -/
structure RxPurged (t : State) : Prop where
  length : t.rxLength = 0
  feature : t.rxFeature = 0
  checksum : t.rxChecksum = 0
  data : ∀ i, t.rxData.read i = BLANK
  receiving : t.receiving = false
  receiveCount : t.receiveCount = 0
  receiveCursor : t.receiveCursor = 0
  acc : t.acc = 0

/-- The send Message is purged (R135). -/
structure TxPurged (t : State) : Prop where
  length : t.txLength = 0
  feature : t.txFeature = 0
  checksum : t.txChecksum = 0
  data : ∀ i, t.txData.read i = BLANK
  sendCursor : t.sendCursor = 0

/-- `s` with the receive side of `t`: the receive Message, the position, the receive cursor and the accumulator. -/
def State.withRx (s t : State) : State :=
  { s with
    rxLength := t.rxLength, rxFeature := t.rxFeature, rxChecksum := t.rxChecksum, rxData := t.rxData
    receiving := t.receiving, receiveCount := t.receiveCount, receiveCursor := t.receiveCursor, acc := t.acc }

/-- `s` with the send side of `t`: the send Message and the send cursor. -/
def State.withTx (s t : State) : State :=
  { s with
    txLength := t.txLength, txFeature := t.txFeature, txChecksum := t.txChecksum, txData := t.txData
    sendCursor := t.sendCursor }

/-- `s` after a command answered with `r`. -/
def State.answered (s : State) (r : Response) : State := { s with rspTrace := s.rspTrace ++ [r] }

/-- `s` after a byte was consumed: the liveness state is fresh (R151). -/
def State.refreshed (s : State) : State := { s with lastMessageTime := s.now, heartbeatDead := false }

/-- The time difference `(a - b) mod 2^W` of R11, on integers. -/
def timeDiff (c : Config) (a b : Nat) : Int := ((a : Int) - (b : Int)) % (2 : Int) ^ c.clockWidth

/-- The sum of bytes as a natural number, before any reduction (R131). -/
def natSum (bs : List Byte) : Nat := (bs.map BitVec.toNat).sum

end Sys2Proof.Machine
end

