-- ==== Sys2Proof/Certificates/Slice0/Obligations.lean ====
section
/-! DEFINITION. The statements for the provers. Each docstring names the rules it formalises; where a clause rests on a
decision of spec/92_eei_decisions.md (D) or on a choice of this model (log), it says so. -/

open Sys2Proof Sys2Proof.Machine

/-! ## Encodings -/

/-- Command words and two frames of 95_test_vectors.md, written out from 30_encoding.md R92, R95 and R100, decode to what
they stand for. The command encoding is decision D23. That `0xD200000`, `0xD400000` and `FF FB` are answered by the more
particular of two rows that share them is the model's choice (log 10), and so is reading a whole frame as one instruction
(log 7). -/
def Obligations.SampleWordsDecode : Prop :=
  decodeCommand 0x0000000 = .nop ∧ decodeCommand 0x1000000 = .connect ∧ decodeCommand 0x2000000 = .poll ∧
  decodeCommand 0x3210000 = .txfeature 0x21 ∧ decodeCommand 0x4000005 = .txbyte 0x05 ∧
  decodeCommand 0x5001234 = .txword 0x1234 ∧ decodeCommand 0x8210005 = .txsendb 0x21 0x05 ∧
  decodeCommand 0x9321234 = .txsendw 0x32 0x1234 ∧ decodeCommand 0xD200000 = .rdregStatus ∧
  decodeCommand 0xD400000 = .rdreg 0x40 ∧ decodeCommand 0xF000000 = .undefined ∧
  (∀ c, decodeStream c false [0xFF, 0xFB] = .instr .helo []) ∧
  decodeStream .reference false [0xFF, 0x02, 0x32, 0x86, 0x12, 0x34] = .instr (.data 0x02 0x32 0x86 [0x12, 0x34]) []

/-- Every opcode with every operand at every value, the bits it does not use taking any value (R95, R100, R117; the
encoding is decision D23). That RDREG with a selector of R41 is answered by that selector's row, and by the generic row
with any other, is the model's choice (log 10). -/
def Obligations.OpcodeMapIgnoresUnusedBits : Prop :=
  ∀ (a : Byte) (d : Half),
    decodeCommand (0x0#4 ++ a ++ d : BitVec 28) = .nop ∧
    decodeCommand (0x1#4 ++ a ++ d : BitVec 28) = .connect ∧
    decodeCommand (0x2#4 ++ a ++ d : BitVec 28) = .poll ∧
    decodeCommand (0x3#4 ++ a ++ d : BitVec 28) = .txfeature a ∧
    decodeCommand (0x4#4 ++ a ++ d : BitVec 28) = .txbyte (d.setWidth 8) ∧
    decodeCommand (0x5#4 ++ a ++ d : BitVec 28) = .txword d ∧
    decodeCommand (0x6#4 ++ a ++ d : BitVec 28) = .txlenauto ∧
    decodeCommand (0x7#4 ++ a ++ d : BitVec 28) = .txsend ∧
    decodeCommand (0x8#4 ++ a ++ d : BitVec 28) = .txsendb a (d.setWidth 8) ∧
    decodeCommand (0x9#4 ++ a ++ d : BitVec 28) = .txsendw a d ∧
    decodeCommand (0xA#4 ++ a ++ d : BitVec 28) = .txpurge ∧
    decodeCommand (0xB#4 ++ a ++ d : BitVec 28) = .rxgetb ∧
    decodeCommand (0xC#4 ++ a ++ d : BitVec 28) = .rxgetw ∧
    decodeCommand (0xE#4 ++ a ++ d : BitVec 28) = .isalive ∧
    decodeCommand (0xF#4 ++ a ++ d : BitVec 28) = .undefined ∧
    (∀ r : Reg, decodeCommand (0xD#4 ++ r.selector ++ d : BitVec 28) = r.instr) ∧
    ((∀ r : Reg, r.selector ≠ a) → decodeCommand (0xD#4 ++ a ++ d : BitVec 28) = .rdreg a)

/-- The decoder reads back every well-formed host command from its word, with every operand at every value (R95, R100; the
encoding is decision D23, the form that RDREG decodes to is log 10). -/
def Obligations.CommandWordsRoundTrip : Prop :=
  ∀ (c : Config) (i : Instr) (w : CmdWord), i.wf c = true → encode i = some (.command w) → decodeCommand w = i

/-- The decoder reads back every well-formed wire instruction from its bytes, whatever follows them in the stream (R91, R92,
R102, R103, R118). A marker stands alone: with more bytes after it, it is the head of a frame (log 7). Which of two rows that
share words is well-formed is log 10. -/
def Obligations.WireBytesRoundTrip : Prop :=
  (∀ (c : Config) (i : Instr) (bytes more : List Byte),
    i.wf c = true → encode i = some (.stream bytes) → i ≠ .marker →
      decodeStream c false (bytes ++ more) = .instr i more) ∧
  (∀ c, decodeStream c false [MARKER] = .instr .marker [])

/-- What the decoder reads from an IDLE stream is well-formed, and its bytes are the head of the stream: no byte is
dropped or invented (R75, R118; the grouping into instructions is log 7, the row that is answered log 10). -/
def Obligations.DecodedWireInstructionIsWellFormed : Prop :=
  ∀ (c : Config) (bytes rest : List Byte) (i : Instr), decodeStream c false bytes = .instr i rest →
    i.wf c = true ∧ ∃ front, encode i = some (.stream front) ∧ bytes = front ++ rest

/-- A particular row of the opcode table acts as its generic row: HELO, ACK, NACK, FAIL and STATUS.RESERVED as STATUS, the
selector rows as RDREG (R103, R158, R246; which row a word decodes to is log 10). -/
def Obligations.ParticularRowsActAsGeneric : Prop :=
  ∀ (i : Instr) (s : State), exec i s = exec i.generic s

/-! ## The receive state machine -/

/-- R98: a byte is a status code exactly at frame position 0 and exactly when it is 0xF0 or more, that is when its high
nibble is 1111; below that it is a length; at any other position it raises no status callback. -/
def Obligations.StatusCodeOnlyAtPositionZero : Prop :=
  ∀ (b : Byte) (s t : State), s.handlers = [] → exec (.rxbyte b) s = .next t →
    (0xF0 ≤ b ↔ b.extractLsb' 4 4 = 0xF#4) ∧
    (t.evTrace = s.evTrace ++ [.onStatus b] ↔ s.receiving = true ∧ s.receiveCount = 0 ∧ 0xF0 ≤ b) ∧
    (s.receiving = true → s.receiveCount = 0 → ¬ 0xF0 ≤ b → b.toNat ≤ s.cfg.cap → t.rxLength = b)

/-- R151 (decision D8): every consumed byte, whatever arm follows and whatever its handler does, refreshes the liveness
state. -/
def Obligations.EveryByteRefreshesLiveness : Prop :=
  ∀ (b : Byte) (s t : State), exec (.rxbyte b) s = .next t → t.lastMessageTime = s.now ∧ t.heartbeatDead = false

/-- R152: in IDLE the marker opens a frame at position 0 with a purged Message; it is not stored, not counted and not added.
The purged values are decision D11, the fresh liveness state decision D8. -/
def Obligations.MarkerOpensFrame : Prop :=
  ∀ s : State, s.receiving = false →
    ∃ t, exec .marker s = .next t ∧ exec (.rxbyte 0xFF) s = .next t ∧
      t.receiving = true ∧ t.receiveCount = 0 ∧ t.rxLength = 0 ∧ t.rxFeature = 0 ∧ t.rxChecksum = 0 ∧
      (∀ i, t.rxData.read i = 0xFF) ∧ t.receiveCursor = 0 ∧ t.acc = 0 ∧
      t = s.refreshed.withRx t

/-- R153, R282: in IDLE a byte other than the marker is discarded and counted once; nothing is sent, no callback is raised,
no handler runs, the state stays IDLE and the payload buffer blank; a run of n such bytes adds n. -/
def Obligations.StrayByteIsCountedAndDiscarded : Prop :=
  ∀ s : State, s.receiving = false →
    (∀ b : Byte, b ≠ 0xFF → ∃ t, exec (.stray b) s = .next t ∧ exec (.rxbyte b) s = .next t ∧
      t.receiving = false ∧ (∀ i, t.rxData.read i = 0xFF) ∧
      t.failedCount = (s.failedCount + 1) % 2 ^ s.cfg.counterWidth ∧
      t.txTrace = s.txTrace ∧ t.evTrace = s.evTrace ∧ t.handlers = s.handlers) ∧
    (∀ bs : List Byte, bs ≠ [] → (∀ b ∈ bs, b ≠ 0xFF) → ∃ t, feed bs s = .next t ∧
      t.receiving = false ∧ t.failedCount = (s.failedCount + bs.length) % 2 ^ s.cfg.counterWidth ∧
      t.txTrace = s.txTrace ∧ t.evTrace = s.evTrace ∧ t.handlers = s.handlers)

/-- A stray byte changes nothing but the receive side, which it purges (decision D11), the liveness state, which it
refreshes (decision D8), and `failedCount`; a POLL of n stray bytes consumes them all and adds n, and POLL's own timers write
nothing (R243, decision D12). -/
def Obligations.StrayBytesPurgeRefreshAndCount : Prop :=
  (∀ (b : Byte) (s : State), s.receiving = false → b ≠ 0xFF →
    ∃ t, exec (.stray b) s = .next t ∧ RxPurged t ∧ t = { s.refreshed.withRx t with failedCount := t.failedCount }) ∧
  (∀ s : State, s.configured = true → s.receiving = false → s.rxq ≠ [] → (∀ b ∈ s.rxq, b ≠ 0xFF) →
    ∃ t, exec .poll s = .next t ∧ RxPurged t ∧
      t.failedCount = (s.failedCount + s.rxq.length) % 2 ^ s.cfg.counterWidth ∧
      t = ({ s.refreshed.withRx t with failedCount := t.failedCount, rxq := [] }).answered ⟨true, 0⟩)

/-- R155 to R158, R160 to R163, R166, R167, for a byte consumed inside a frame, at each header position. At position 0
a length is stored, an overlong one refused with NACK, and a status code forwarded, HELO with an ACK before it; at
positions 1 and 2 the feature and the checksum are stored; a stored byte is added to the accumulator and moves the
position by one. The checksum byte of a frame of length 0 ends it: with a sum of 0 it is delivered, otherwise rejected.
What ends with a callback is said here where the host has no handler, and in HandlersRunBeforeThePurge where it has one.
(Decisions: D6 completion, D8 liveness state, D9, D10 and D26 counters, D11 purged values, D21 a link that is not
configured.) -/
def Obligations.HeaderBytesAreStored : Prop :=
  ∀ (b : Byte) (s : State), s.receiving = true →
    (s.receiveCount = 0 → b.toNat ≤ s.cfg.cap →
      exec (.rxbyte b) s = .next
        { s.refreshed with rxLength := b, receiveCursor := 0, acc := s.acc + b, receiveCount := 1 }) ∧
    (s.receiveCount = 0 → s.cfg.cap < b.toNat → b < 0xF0 → ∃ t, exec (.rxbyte b) s = .next t ∧ RxPurged t ∧
      t.txTrace = s.txTrace ++ (if s.configured then [0xFF, s.cfg.stNack] else []) ∧
      t.failedCount = (s.failedCount + 1) % 2 ^ s.cfg.counterWidth ∧
      t = { s.refreshed.withRx t with txTrace := t.txTrace, failedCount := t.failedCount }) ∧
    (s.receiveCount = 0 → 0xF0 ≤ b → s.handlers = [] → ∃ t, exec (.rxbyte b) s = .next t ∧ RxPurged t ∧
      t.txTrace = s.txTrace ++ (if b = 0xFB ∧ s.configured = true then [0xFF, s.cfg.stAck] else []) ∧
      t.evTrace = s.evTrace ++ [.onStatus b] ∧
      t = { s.refreshed.withRx t with txTrace := t.txTrace, evTrace := t.evTrace }) ∧
    (s.receiveCount = 1 →
      exec (.rxbyte b) s = .next { s.refreshed with rxFeature := b, acc := s.acc + b, receiveCount := 2 }) ∧
    (s.receiveCount = 2 → s.rxLength ≠ 0 →
      exec (.rxbyte b) s = .next { s.refreshed with rxChecksum := b, acc := s.acc + b, receiveCount := 3 }) ∧
    (s.receiveCount = 2 → s.rxLength = 0 → s.acc + b = 0 → s.handlers = [] →
      ∃ t, exec (.rxbyte b) s = .next t ∧ RxPurged t ∧
        t.txTrace = s.txTrace ++ (if s.configured then [0xFF, s.cfg.stAck] else []) ∧
        t.evTrace = s.evTrace ++ [.onMessage 0 s.rxFeature b []] ∧
        t.successCount = (s.successCount + 1) % 2 ^ s.cfg.counterWidth ∧
        t = { s.refreshed.withRx t with
              txTrace := t.txTrace, evTrace := t.evTrace, successCount := t.successCount }) ∧
    (s.receiveCount = 2 → s.rxLength = 0 → s.acc + b ≠ 0 → ∃ t, exec (.rxbyte b) s = .next t ∧ RxPurged t ∧
      t.txTrace = s.txTrace ++ (if s.configured then [0xFF, s.cfg.stNack] else []) ∧
      t.failedCount = (s.failedCount + 1) % 2 ^ s.cfg.counterWidth ∧
      t = { s.refreshed.withRx t with txTrace := t.txTrace, failedCount := t.failedCount })

/-- R159 to R162, R167, for a byte consumed inside a frame: a payload byte at position p is stored at index p - 3 and nowhere
else, added to the accumulator, and moves the position by one; the byte at position length + 2 ends the frame: with a sum
of 0 it is answered with ACK, delivered once with exactly the length, feature, checksum and payload received, purged and
counted, otherwise NACK, purge, failure counter. However the frame was received, over one POLL or many, this is its end.
Delivery is said here where the host has no handler, and in HandlersRunBeforeThePurge where it has one. (Decisions: D6
completion, D8 liveness state, D9 success count, D11 purged values, D21 a link that is not configured.) -/
def Obligations.PayloadByteIsStored : Prop :=
  ∀ (b : Byte) (s : State), s.receiving = true → s.rxData.wf = true → 3 ≤ s.receiveCount.toNat →
    s.rxLength.toNat ≤ s.cfg.cap →
    (s.receiveCount.toNat < s.rxLength.toNat + 2 → ∃ t, exec (.rxbyte b) s = .next t ∧
      (∀ i, t.rxData.read i = if i = s.receiveCount.toNat - 3 then b else s.rxData.read i) ∧
      t.acc = s.acc + b ∧ t.receiveCount.toNat = s.receiveCount.toNat + 1 ∧
      t = { s.refreshed with rxData := t.rxData, acc := t.acc, receiveCount := t.receiveCount }) ∧
    (s.receiveCount.toNat = s.rxLength.toNat + 2 → s.acc + b = 0 → s.handlers = [] →
      ∃ t, exec (.rxbyte b) s = .next t ∧ RxPurged t ∧
        t.txTrace = s.txTrace ++ (if s.configured then [0xFF, s.cfg.stAck] else []) ∧
        t.evTrace = s.evTrace ++ [.onMessage s.rxLength s.rxFeature s.rxChecksum
          ((List.range s.rxLength.toNat).map fun i =>
            if i = s.receiveCount.toNat - 3 then b else s.rxData.read i)] ∧
        t.successCount = (s.successCount + 1) % 2 ^ s.cfg.counterWidth ∧
        t = { s.refreshed.withRx t with
              txTrace := t.txTrace, evTrace := t.evTrace, successCount := t.successCount }) ∧
    (s.receiveCount.toNat = s.rxLength.toNat + 2 → s.acc + b ≠ 0 → ∃ t, exec (.rxbyte b) s = .next t ∧ RxPurged t ∧
      t.txTrace = s.txTrace ++ (if s.configured then [0xFF, s.cfg.stNack] else []) ∧
      t.failedCount = (s.failedCount + 1) % 2 ^ s.cfg.counterWidth ∧
      t = { s.refreshed.withRx t with txTrace := t.txTrace, failedCount := t.failedCount })

/-- R162: a data frame whose sum is 0, consumed from IDLE by a configured block whose host has no handler, is answered with
ACK, delivered once with exactly its header and payload, purged and counted. The success count is decision D9, the fresh
liveness state D8, the purged values D11. -/
def Obligations.ValidDataFrameIsDelivered : Prop :=
  ∀ (s : State) (l f k : Byte) (p : List Byte), s.configured = true → s.receiving = false → s.handlers = [] →
    (Instr.data l f k p).wf s.cfg = true →
    ∃ t, exec (.data l f k p) s = .next t ∧ RxPurged t ∧
      t.txTrace = s.txTrace ++ [0xFF, s.cfg.stAck] ∧
      t.evTrace = s.evTrace ++ [.onMessage l f k p] ∧
      t.successCount = (s.successCount + 1) % 2 ^ s.cfg.counterWidth ∧
      t = { s.refreshed.withRx t with
            txTrace := t.txTrace, evTrace := t.evTrace, successCount := t.successCount }

/-- R167: a data frame whose sum is not 0 is discarded: NACK, purge to IDLE, failure counter; no callback, no event, and the
contents are lost. -/
def Obligations.MismatchedDataFrameIsRejected : Prop :=
  ∀ (s : State) (l f k : Byte) (p : List Byte), s.configured = true → s.receiving = false →
    (Instr.dataMismatch l f k p).wf s.cfg = true →
    ∃ t, exec (.dataMismatch l f k p) s = .next t ∧ t.receiving = false ∧ (∀ i, t.rxData.read i = 0xFF) ∧
      t.txTrace = s.txTrace ++ [0xFF, s.cfg.stNack] ∧
      t.failedCount = (s.failedCount + 1) % 2 ^ s.cfg.counterWidth ∧
      t.successCount = s.successCount ∧ t.evTrace = s.evTrace ∧ t.handlers = s.handlers

/-- R49, R158, R162, R163, R292 (decisions D9, D14): a handler runs with any ACK on the wire and the receive Message not yet
purged: after a message it stands complete, at the position after its last byte, and the purge and the counter follow;
after a status frame the purge follows. The first two clauses say so of a whole frame consumed from IDLE, the last two of
the byte that ends a frame, consumed inside it. The queue of handlers is log 5, the fresh liveness state decision D8, a
link that is not configured D21. -/
def Obligations.HandlersRunBeforeThePurge : Prop :=
  ∀ (s : State) (h : List CmdWord) (hs : List (List CmdWord)), s.handlers = h :: hs →
    (∀ (l f k : Byte) (p : List Byte), s.configured = true → s.receiving = false →
      (Instr.data l f k p).wf s.cfg = true →
      ∃ m, exec (.data l f k p) s = andThen (runHandler h m) (fun u => .next (countSuccess (purgeRx u))) ∧
        m.txTrace = s.txTrace ++ [0xFF, s.cfg.stAck] ∧ m.evTrace = s.evTrace ++ [.onMessage l f k p] ∧
        m.handlers = hs ∧ m.receiving = true ∧ m.receiveCount.toNat = l.toNat + 3 ∧ m.receiveCursor = 0 ∧
        m.rxLength = l ∧ m.rxFeature = f ∧ m.rxChecksum = k ∧ m.acc = 0 ∧
        (∀ i, m.rxData.read i = p.getD i 0xFF) ∧
        m = { s.refreshed.withRx m with txTrace := m.txTrace, evTrace := m.evTrace, handlers := m.handlers }) ∧
    (∀ c : Nibble, s.configured = true → s.receiving = false →
      ∃ m, exec (.status c) s = andThen (runHandler h m) (fun u => .next (purgeRx u)) ∧
        m.receiving = true ∧ m.receiveCount = 0 ∧ m.handlers = hs ∧
        m.evTrace = s.evTrace ++ [.onStatus (0xF#4 ++ c)] ∧
        m.txTrace = s.txTrace ++ (if c = 0xB then [0xFF, s.cfg.stAck] else []) ∧
        m = { s.refreshed.withRx m with txTrace := m.txTrace, evTrace := m.evTrace, handlers := m.handlers }) ∧
    (∀ b : Byte, s.receiving = true → s.rxData.wf = true → s.rxLength.toNat ≤ s.cfg.cap →
      s.receiveCount.toNat = s.rxLength.toNat + 2 → s.acc + b = 0 →
      ∃ m, exec (.rxbyte b) s = andThen (runHandler h m) (fun u => .next (countSuccess (purgeRx u))) ∧
        m.txTrace = s.txTrace ++ (if s.configured then [0xFF, s.cfg.stAck] else []) ∧
        m.evTrace = s.evTrace ++ [.onMessage s.rxLength s.rxFeature m.rxChecksum
          ((List.range s.rxLength.toNat).map m.rxData.read)] ∧
        m.handlers = hs ∧ m.receiveCount.toNat = s.rxLength.toNat + 3 ∧ m.acc = 0 ∧
        m.rxChecksum = (if s.rxLength = 0 then b else s.rxChecksum) ∧
        (∀ i, m.rxData.read i = if i + 3 = s.receiveCount.toNat then b else s.rxData.read i) ∧
        m = { s.refreshed with
              txTrace := m.txTrace, evTrace := m.evTrace, handlers := m.handlers, receiveCount := m.receiveCount
              acc := m.acc, rxChecksum := m.rxChecksum, rxData := m.rxData }) ∧
    (∀ b : Byte, s.receiving = true → s.receiveCount = 0 → 0xF0 ≤ b →
      exec (.rxbyte b) s = andThen (runHandler h
          { s.refreshed with
            txTrace := s.txTrace ++ (if b = 0xFB ∧ s.configured = true then [0xFF, s.cfg.stAck] else [])
            evTrace := s.evTrace ++ [.onStatus b], handlers := hs })
        (fun u => .next (purgeRx u)))

/-- R166 (decision D10): a length the buffer cannot hold is refused at its length byte: NACK, purge, failure counter; the
block is IDLE at once. The fresh liveness state is decision D8, the purged values D11. -/
def Obligations.OverlongFrameIsRefused : Prop :=
  ∀ (s : State) (l : Byte), s.configured = true → s.receiving = false → s.cfg.cap < l.toNat → l < 0xF0 →
    ∃ t, exec (.dataOverflow l) s = .next t ∧ RxPurged t ∧
      t.txTrace = s.txTrace ++ [0xFF, s.cfg.stNack] ∧
      t.failedCount = (s.failedCount + 1) % 2 ^ s.cfg.counterWidth ∧
      t = { s.refreshed.withRx t with txTrace := t.txTrace, failedCount := t.failedCount }

/-- R163, R164, R165: every status frame is forwarded verbatim to the status callback and purged; HELO is answered with
ACK and no other code with anything; no other state changes. That neither counter changes is decision D26, the fresh
liveness state D8, the purged values D11. -/
def Obligations.StatusFramesAreForwarded : Prop :=
  ∀ (s : State) (c : Nibble), s.configured = true → s.receiving = false → s.handlers = [] →
    ∃ t, exec (.status c) s = .next t ∧ exec (.ack c) s = .next t ∧ exec (.nack c) s = .next t ∧
      exec (.fail c) s = .next t ∧ exec (.statusReserved c) s = .next t ∧
      (c = 0xB → exec .helo s = .next t) ∧
      RxPurged t ∧ t.evTrace = s.evTrace ++ [.onStatus (0xF#4 ++ c)] ∧
      t.txTrace = s.txTrace ++ (if c = 0xB then [0xFF, s.cfg.stAck] else []) ∧
      t = { s.refreshed.withRx t with txTrace := t.txTrace, evTrace := t.evTrace }

/-- R142 (first sentence): change exactly one byte among feature, checksum and payload of a valid frame, and the block
rejects it: NACK, no callback, failure counter, nothing else but the purge (decision D11) and the fresh liveness state
(decision D8). The length byte is left out: changing it moves the end of the frame. -/
def Obligations.SingleByteCorruptionIsRejected : Prop :=
  ∀ (s : State) (l f k f' k' : Byte) (p p' : List Byte) (j : Nat) (x : Byte),
    s.configured = true → s.receiving = false → (Instr.data l f k p).wf s.cfg = true →
    f' :: k' :: p' = (f :: k :: p).set j x → f' :: k' :: p' ≠ f :: k :: p →
    (Instr.dataMismatch l f' k' p').wf s.cfg = true ∧
    ∃ t, exec (.data l f' k' p') s = .next t ∧ exec (.dataMismatch l f' k' p') s = .next t ∧ RxPurged t ∧
      t.txTrace = s.txTrace ++ [0xFF, s.cfg.stNack] ∧
      t.failedCount = (s.failedCount + 1) % 2 ^ s.cfg.counterWidth ∧
      t = { s.refreshed.withRx t with txTrace := t.txTrace, failedCount := t.failedCount }

/-- R142 (second sentence), U11: change two bytes among feature, checksum and payload of a valid frame by +d and -d, or
exchange them, and the frame passes: it is valid, and a configured block in IDLE whose host has no handler answers ACK,
raises OnMessage with the changed contents, and counts no failure. The length byte is left out: changing it moves the end
of the frame. -/
def Obligations.CompensatingCorruptionPasses : Prop :=
  ∀ (c : Config) (l f k f' k' d x y : Byte) (p p' : List Byte) (i j : Nat), (Instr.data l f k p).wf c = true →
    i ≠ j → (f :: k :: p)[i]? = some x → (f :: k :: p)[j]? = some y →
    (f' :: k' :: p' = ((f :: k :: p).set i (x + d)).set j (y - d) ∨
      f' :: k' :: p' = ((f :: k :: p).set i y).set j x) →
    (Instr.data l f' k' p').wf c = true ∧
    ∀ s : State, s.cfg = c → s.configured = true → s.receiving = false → s.handlers = [] →
      ∃ t, exec (.data l f' k' p') s = .next t ∧ t.txTrace = s.txTrace ++ [0xFF, c.stAck] ∧
        t.evTrace = s.evTrace ++ [.onMessage l f' k' p'] ∧ t.failedCount = s.failedCount

/-- R202 (the round-trip law): what TXSEND writes, polled by a block in IDLE with the same capacity, is answered with ACK
and delivered with the sender's length, feature, checksum and payload, and no error is counted. That one POLL drains the
queue is decision D12, the purged values are D11. -/
def Obligations.SentFrameRoundTrips : Prop :=
  ∀ (a b a' : State) (wire : List Byte), a.configured = true → a.txLength.toNat ≤ a.cfg.cap →
    exec .txsend a = .next a' → a'.txTrace = a.txTrace ++ wire →
    b.configured = true → b.receiving = false → b.handlers = [] → b.cfg.cap = a.cfg.cap → b.rxq = wire →
    ∃ b' k, exec .poll b = .next b' ∧
      k.toNat = (256 - natSum (a.txLength :: a.txFeature :: (List.range a.txLength.toNat).map a.txData.read) % 256) % 256 ∧
      b'.evTrace = b.evTrace ++
        [.onMessage a.txLength a.txFeature k ((List.range a.txLength.toNat).map a.txData.read)] ∧
      b'.txTrace = b.txTrace ++ [0xFF, b.cfg.stAck] ∧ b'.failedCount = b.failedCount ∧ b'.rxq = [] ∧ RxPurged b'

/-- R75, R150, R154: running the stream instruction by instruction is running it byte by byte (the wire instructions are
this model's grouping of RXBYTE steps, log 7 and log 8). -/
def Obligations.WireInstructionsAreTheirBytes : Prop :=
  ∀ (s : State) (bytes rest : List Byte) (i : Instr), decodeStream s.cfg s.receiving bytes = .instr i rest →
    feed bytes s = andThen (exec i s) (feed rest)

/-- R36, R37, R280, R289: a byte raises at most one callback; it adds one to `failedCount` exactly when it raises an error
kind, and one to `successCount` exactly when it raises OnMessage; no handler changes this (the increments are decisions D9
and D10). -/
def Obligations.CountersCountErrorsAndMessages : Prop :=
  ∀ (b : Byte) (s t : State), exec (.rxbyte b) s = .next t →
    t.failedCount = (if errorOfByte b s = none then s.failedCount
      else (s.failedCount + 1) % 2 ^ s.cfg.counterWidth) ∧
    ((t.evTrace = s.evTrace ∧ t.successCount = s.successCount) ∨
      (∃ code, t.evTrace = s.evTrace ++ [.onStatus code] ∧ t.successCount = s.successCount) ∨
      (∃ l f k p, t.evTrace = s.evTrace ++ [.onMessage l f k p] ∧
        t.successCount = (s.successCount + 1) % 2 ^ s.cfg.counterWidth ∧ errorOfByte b s = none))

/-- R20: with no handler, consuming a byte leaves the whole send side as it was. -/
def Obligations.ReceivingLeavesSendSide : Prop :=
  ∀ (b : Byte) (s t : State), s.handlers = [] → exec (.rxbyte b) s = .next t → t = t.withTx s

/-- R291: after every receive-side error, one a byte raises or a timeout, the state machine is IDLE with a purged buffer, the
send side is untouched, and the next byte is handled as in IDLE: a marker opens a frame, any other byte is counted. -/
def Obligations.ReceiveErrorsEndIdle : Prop :=
  ∀ s t : State, (∃ b, errorOfByte b s ≠ none ∧ exec (.rxbyte b) s = .next t) ∨
      (errorOfTimeout s ≠ none ∧ exec .timeoutchk s = .next t) →
    t.receiving = false ∧ t.receiveCount = 0 ∧ (∀ i, t.rxData.read i = 0xFF) ∧ t = t.withTx s ∧
    (∃ u, exec (.rxbyte 0xFF) t = .next u ∧ u.receiving = true ∧ u.receiveCount = 0) ∧
    (∀ c : Byte, c ≠ 0xFF → ∃ u, exec (.rxbyte c) t = .next u ∧ u.receiving = false ∧
      u.failedCount = (t.failedCount + 1) % 2 ^ s.cfg.counterWidth)

/-- R134, R152 (decision D11): whatever brings the state machine to IDLE, a byte or a timeout, leaves the receive Message at
its purged values and the position, the receive cursor and the accumulator at 0, whatever a handler did. -/
def Obligations.EveryWayToIdlePurges : Prop :=
  ∀ s t : State, t.receiving = false →
    (∃ b, exec (.rxbyte b) s = .next t) ∨ (s.receiving = true ∧ exec .timeoutchk s = .next t) → RxPurged t

/-! ## Timers and POLL -/

/-- R220: TIMEOUTCHK aborts a frame exactly when more than TIMEOUT_MS have passed since the last byte, at every position:
FrameTimeout, purge to IDLE, NACK, no counter, no callback, no stamp; a second one finds nothing to do. -/
def Obligations.FrameTimeoutIsStrict : Prop :=
  ∀ s : State,
    (s.configured = true → s.receiving = true → (s.cfg.timeoutMs : Int) < timeDiff s.cfg s.now s.lastMessageTime →
      errorOfTimeout s = some .frameTimeout ∧
      ∃ t, exec .timeoutchk s = .next t ∧ t.receiving = false ∧ (∀ i, t.rxData.read i = 0xFF) ∧
        t.txTrace = s.txTrace ++ [0xFF, s.cfg.stNack] ∧
        t = { s.withRx t with txTrace := t.txTrace } ∧ exec .timeoutchk t = .next t) ∧
    (¬ (s.configured = true ∧ s.receiving = true ∧
        (s.cfg.timeoutMs : Int) < timeDiff s.cfg s.now s.lastMessageTime) →
      errorOfTimeout s = none ∧ exec .timeoutchk s = .next s)

/-- R221, R222, R223: HBTICK does nothing where the interval is 0, the link is not configured or is marked dead; otherwise
it sends HELO exactly when both silences exceed the interval, and marks the link dead exactly when the first exceeds five
intervals. That the tick that marks the link dead still sends its HELO (R224), and that the product of five intervals is
exact (R141), are decision D22 (log 13). -/
def Obligations.HeartbeatTickSendsAndMarks : Prop :=
  ∀ s : State,
    (s.hbInterval = 0 ∨ s.configured = false ∨ s.heartbeatDead = true → exec .hbtick s = .next s) ∧
    (s.hbInterval ≠ 0 → s.configured = true → s.heartbeatDead = false →
      ∃ t, exec .hbtick s = .next t ∧
        ((s.hbInterval : Int) < timeDiff s.cfg s.now s.lastMessageTime ∧
            (s.hbInterval : Int) < timeDiff s.cfg s.now s.lastHeartbeatTime →
          t.txTrace = s.txTrace ++ [0xFF, 0xFB] ∧ t.lastHeartbeatTime = s.now) ∧
        (¬ ((s.hbInterval : Int) < timeDiff s.cfg s.now s.lastMessageTime ∧
            (s.hbInterval : Int) < timeDiff s.cfg s.now s.lastHeartbeatTime) →
          t.txTrace = s.txTrace ∧ t.lastHeartbeatTime = s.lastHeartbeatTime) ∧
        (t.heartbeatDead = true ↔ 5 * (s.hbInterval : Int) < timeDiff s.cfg s.now s.lastMessageTime) ∧
        t = { s with
              txTrace := t.txTrace, lastHeartbeatTime := t.lastHeartbeatTime, heartbeatDead := t.heartbeatDead })

/-- R225 (decision D32): ISALIVE answers 1 exactly when less than one interval has passed since the last byte, and changes
nothing. -/
def Obligations.IsaliveAnswersTheQuery : Prop :=
  ∀ s : State, exec .isalive s =
    .next (s.answered ⟨true, if timeDiff s.cfg s.now s.lastMessageTime < (s.hbInterval : Int) then 1 else 0⟩)

/-- R122, R243 (decision D12): POLL is RXBYTE of every queued byte, then TIMEOUTCHK, then HBTICK, then ACCEPT, all at one
`now`; in a POLL that consumes a byte neither timer acts; on a link that is not configured POLL reads and writes nothing. -/
def Obligations.PollIsDrainTimeoutHeartbeat : Prop :=
  ∀ s : State,
    (s.configured = true → exec .poll s =
      andThen (feed s.rxq { s with rxq := [] }) fun u =>
        andThen (exec .timeoutchk u) fun v => andThen (exec .hbtick v) fun w => .next (w.answered ⟨true, 0⟩)) ∧
    (s.configured = true → s.rxq ≠ [] → exec .poll s =
      andThen (feed s.rxq { s with rxq := [] }) fun u => .next (u.answered ⟨true, 0⟩)) ∧
    (s.configured = false → exec .poll s = .next (s.answered ⟨true, 0⟩))

/-! ## The send assembler -/

/-- R191: TXFEATURE sets the feature and nothing else; it is idempotent, the last one wins, and a purge clears it to 0. -/
def Obligations.TxfeatureSetsFeature : Prop :=
  ∀ (f g : Byte) (s : State),
    exec (.txfeature f) s = .next ({ s with txFeature := f }.answered ⟨true, 0⟩) ∧
    (∃ t, exec (.txfeature g) s = .next t ∧
      exec (.txfeature f) t = .next ({ t with txFeature := f }.answered ⟨true, 0⟩) ∧
      exec (.txfeature g) t = .next (t.answered ⟨true, 0⟩)) ∧
    (∃ t, exec .txpurge s = .next t ∧ t.txFeature = 0)

/-- R192, R199 (decision D17): TXBYTE stores its byte at the cursor and nowhere else, moves the cursor by one and lifts the
length to it. -/
def Obligations.TxbyteAppends : Prop :=
  ∀ (v : Byte) (s : State), s.txData.wf = true → s.sendCursor.toNat + 1 ≤ s.cfg.cap →
    ∃ t, exec (.txbyte v) s = .next t ∧
      (∀ a, t.txData.read a = if a = s.sendCursor.toNat then v else s.txData.read a) ∧
      t.sendCursor.toNat = s.sendCursor.toNat + 1 ∧
      t.txLength.toNat = max s.txLength.toNat (s.sendCursor.toNat + 1) ∧
      t = { s with txData := t.txData, sendCursor := t.sendCursor, txLength := t.txLength }.answered ⟨true, 0⟩

/-- R193, R60, R199 (decisions D17, D19): TXWORD stores its high byte at the cursor and its low byte after it, moves the
cursor by two and lifts the length to it. -/
def Obligations.TxwordAppendsBigEndian : Prop :=
  ∀ (w : Half) (s : State), s.txData.wf = true → s.sendCursor.toNat + 2 ≤ s.cfg.cap →
    ∃ t, exec (.txword w) s = .next t ∧
      (∀ a, t.txData.read a =
        if a = s.sendCursor.toNat then BitVec.ofNat 8 (w.toNat / 256)
        else if a = s.sendCursor.toNat + 1 then BitVec.ofNat 8 (w.toNat % 256) else s.txData.read a) ∧
      t.sendCursor.toNat = s.sendCursor.toNat + 2 ∧
      t.txLength.toNat = max s.txLength.toNat (s.sendCursor.toNat + 2) ∧
      t = { s with txData := t.txData, sendCursor := t.sendCursor, txLength := t.txLength }.answered ⟨true, 0⟩

/-- R193, R62: TXWORD leaves what TXBYTE of its high byte and then of its low byte leave, whenever both fit. -/
def Obligations.TxwordIsTwoTxbytes : Prop :=
  ∀ (w : Half) (s : State), s.sendCursor.toNat + 2 ≤ s.cfg.cap →
    ∃ t u v, exec (.txword w) s = .next t ∧ exec (.txbyte (BitVec.ofNat 8 (w.toNat / 256))) s = .next u ∧
      exec (.txbyte (BitVec.ofNat 8 (w.toNat % 256))) u = .next v ∧ t = { v with rspTrace := t.rspTrace }

/-- R194 (decision D18): TXLENAUTO sets the length to the least blank index of the buffer, or to CAP where there is none,
and leaves the cursor and the buffer. -/
def Obligations.TxlenautoFindsFirstBlank : Prop :=
  ∀ s : State, ∃ t, exec .txlenauto s = .next t ∧
    t.txLength.toNat ≤ s.cfg.cap ∧ (∀ i, i < t.txLength.toNat → s.txData.read i ≠ 0xFF) ∧
    (t.txLength.toNat < s.cfg.cap → s.txData.read t.txLength.toNat = 0xFF) ∧
    t = { s with txLength := t.txLength }.answered ⟨true, 0⟩

/-- R131, R137, R138: on a configured link TXSEND writes one frame, marker, length, feature, checksum, payload in rising
index, with the generator's checksum, no byte escaped, and purges the send Message; nothing outside the send side changes. -/
def Obligations.TxsendEmitsFrame : Prop :=
  ∀ s : State, s.configured = true → s.txLength.toNat ≤ s.cfg.cap →
    ∃ t k, exec .txsend s = .next t ∧
      k.toNat = (256 - natSum (s.txLength :: s.txFeature :: (List.range s.txLength.toNat).map s.txData.read) % 256) % 256 ∧
      t.txTrace = s.txTrace ++ [0xFF, s.txLength, s.txFeature, k] ++ (List.range s.txLength.toNat).map s.txData.read ∧
      (∀ i, t.txData.read i = 0xFF) ∧ t.sendCursor = 0 ∧
      t = ({ s with txTrace := t.txTrace }.withTx t).answered ⟨true, 0⟩

/-- R196 (decision D15): TXSENDB writes a one-byte frame where the link is configured; where it is not, it writes nothing,
answers ACCEPT and keeps the built message (R195, decision D20). The purged values are decision D11. -/
def Obligations.TxsendbBuildsAndSends : Prop :=
  ∀ (f v : Byte) (s : State), s.txData.wf = true →
    (s.configured = true → ∃ t k, exec (.txsendb f v) s = .next t ∧
      k.toNat = (256 - natSum [1, f, v] % 256) % 256 ∧
      t.txTrace = s.txTrace ++ [0xFF, 1, f, k, v] ∧
      TxPurged t ∧ t = ({ s with txTrace := t.txTrace }.withTx t).answered ⟨true, 0⟩) ∧
    (s.configured = false → ∃ t, exec (.txsendb f v) s = .next t ∧
      t.txFeature = f ∧ t.txLength = 1 ∧ t.sendCursor = 1 ∧ t.txChecksum = s.txChecksum ∧
      (∀ a, t.txData.read a = if a = 0 then v else s.txData.read a) ∧ t = (s.withTx t).answered ⟨true, 0⟩)

/-- R197, R60 (decision D15): TXSENDW writes a two-byte frame, high byte first, where the link is configured; where it is not,
it writes nothing and keeps the built message (R195, decision D20); with a capacity of one byte it is rejected (decision
D16). The purged values are decision D11. -/
def Obligations.TxsendwBuildsAndSends : Prop :=
  ∀ (f : Byte) (w : Half) (s : State), s.txData.wf = true →
    (2 ≤ s.cfg.cap → s.configured = true → ∃ t k, exec (.txsendw f w) s = .next t ∧
      k.toNat = (256 - natSum [2, f, BitVec.ofNat 8 (w.toNat / 256), BitVec.ofNat 8 (w.toNat % 256)] % 256) % 256 ∧
      t.txTrace = s.txTrace ++
        [0xFF, 2, f, k, BitVec.ofNat 8 (w.toNat / 256), BitVec.ofNat 8 (w.toNat % 256)] ∧
      TxPurged t ∧ t = ({ s with txTrace := t.txTrace }.withTx t).answered ⟨true, 0⟩) ∧
    (2 ≤ s.cfg.cap → s.configured = false → ∃ t, exec (.txsendw f w) s = .next t ∧
      t.txFeature = f ∧ t.txLength = 2 ∧ t.sendCursor = 2 ∧ t.txChecksum = s.txChecksum ∧
      (∀ a, t.txData.read a =
        if a = 0 then BitVec.ofNat 8 (w.toNat / 256)
        else if a = 1 then BitVec.ofNat 8 (w.toNat % 256) else s.txData.read a) ∧
      t = (s.withTx t).answered ⟨true, 0⟩) ∧
    (s.cfg.cap < 2 → exec (.txsendw f w) s = .next (s.answered ⟨false, 0⟩))

/-- R122: on a purged send Message TXSENDB leaves what TXFEATURE, TXBYTE, TXSEND leave, on the wire and in the state, and
TXSENDW what TXFEATURE, TXWORD, TXSEND leave, but for the number of answers. -/
def Obligations.ShorthandSendsWhatTheBuildSends : Prop :=
  ∀ (f v : Byte) (w : Half) (s : State), s.configured = true → TxPurged s →
    (∃ t u1 u2 u3, exec (.txsendb f v) s = .next t ∧ exec (.txfeature f) s = .next u1 ∧
      exec (.txbyte v) u1 = .next u2 ∧ exec .txsend u2 = .next u3 ∧ t = { u3 with rspTrace := t.rspTrace }) ∧
    (2 ≤ s.cfg.cap → ∃ t u1 u2 u3, exec (.txsendw f w) s = .next t ∧ exec (.txfeature f) s = .next u1 ∧
      exec (.txword w) u1 = .next u2 ∧ exec .txsend u2 = .next u3 ∧ t = { u3 with rspTrace := t.rspTrace })

/-- R198, R135 (decisions D11, D29): TXPURGE returns the send Message to its defaults and changes nothing else; TXSEND on a
configured link leaves the same defaults behind. -/
def Obligations.TxpurgeClearsSendMessage : Prop :=
  ∀ s : State, (∃ t, exec .txpurge s = .next t ∧ TxPurged t ∧ t = (s.withTx t).answered ⟨true, 0⟩) ∧
    ∀ t, s.configured = true → exec .txsend s = .next t → TxPurged t

/-- R67: NOP, TXFEATURE, TXLENAUTO and TXPURGE are idempotent: the second does nothing but answer. -/
def Obligations.IdempotentCommands : Prop :=
  ∀ (i : Instr) (s t : State), (i = .nop ∨ (∃ f, i = .txfeature f) ∨ i = .txlenauto ∨ i = .txpurge) →
    exec i s = .next t → exec i t = .next (t.answered ⟨true, 0⟩)

/-! ## Set-up and reading -/

/-- R241, R116, R247 (decisions D23, D30): NOP answers ACCEPT; opcode 0xF, and RDREG with a selector outside R41, answer
REJECT; none of them changes anything. -/
def Obligations.NopAndUndefinedChangeNothing : Prop :=
  ∀ s : State, exec .nop s = .next (s.answered ⟨true, 0⟩) ∧ exec .undefined s = .next (s.answered ⟨false, 0⟩) ∧
    ∀ sel : Byte, sel ∉ ([0x00, 0x01, 0x02, 0x03, 0x04, 0x05, 0x10, 0x11, 0x12, 0x13, 0x14, 0x20, 0x21, 0x22,
        0x30, 0x31, 0x32] : List Byte) →
      exec (.rdreg sel) s = .next (s.answered ⟨false, 0⟩)

/-- R242, R228 (decisions D13, D22): CONNECT configures a link that is not configured, with the strap's interval and both
stamps at `now`; a configured link, or an interval above a fifth of the clock's range, is rejected. -/
def Obligations.ConnectConfiguresOnce : Prop :=
  ∀ s : State,
    (s.configured = false → s.cfgHbInterval ≤ (2 ^ s.cfg.clockWidth - 1) / 5 → exec .connect s = .next
      ({ s with
          hbInterval := s.cfgHbInterval, lastMessageTime := s.now, lastHeartbeatTime := s.now
          heartbeatDead := false, configured := true }.answered ⟨true, 0⟩)) ∧
    (s.configured = true ∨ (2 ^ s.cfg.clockWidth - 1) / 5 < s.cfgHbInterval →
      exec .connect s = .next (s.answered ⟨false, 0⟩))

/-- R244, R245, R60 (decision D19): RXGETB answers the byte at the receive cursor and moves the cursor by one; RXGETW answers
the two bytes there, the first more significant, and moves it by two; what would pass the buffer is rejected whole. -/
def Obligations.ReceiveReadsAdvanceTheCursor : Prop :=
  ∀ s : State,
    (s.receiveCursor.toNat + 1 ≤ s.cfg.cap → exec .rxgetb s = .next
      ({ s with receiveCursor := s.receiveCursor + 1 }.answered
        ⟨true, (s.rxData.read s.receiveCursor.toNat).toNat⟩)) ∧
    (s.cfg.cap < s.receiveCursor.toNat + 1 → exec .rxgetb s = .next (s.answered ⟨false, 0⟩)) ∧
    (s.receiveCursor.toNat + 2 ≤ s.cfg.cap → exec .rxgetw s = .next
      ({ s with receiveCursor := s.receiveCursor + 2 }.answered
        ⟨true, 256 * (s.rxData.read s.receiveCursor.toNat).toNat +
          (s.rxData.read (s.receiveCursor.toNat + 1)).toNat⟩)) ∧
    (s.cfg.cap < s.receiveCursor.toNat + 2 → exec .rxgetw s = .next (s.answered ⟨false, 0⟩))

/-- R41, R246 (decision D23): each selector of RDREG answers its register, zero-extended, with no side effect, and the
generic row with that selector does the same. -/
def Obligations.RdregReadsItsRegister : Prop :=
  ∀ s : State,
    exec .rdregRxLength s = .next (s.answered ⟨true, s.rxLength.toNat⟩) ∧
    exec .rdregRxFeature s = .next (s.answered ⟨true, s.rxFeature.toNat⟩) ∧
    exec .rdregRxChecksum s = .next (s.answered ⟨true, s.rxChecksum.toNat⟩) ∧
    exec .rdregRxFeatureset s = .next (s.answered ⟨true, (s.rxFeature &&& 0xF0).toNat⟩) ∧
    exec .rdregReceivecursor s = .next (s.answered ⟨true, s.receiveCursor.toNat⟩) ∧
    exec .rdregReceivecount s = .next (s.answered ⟨true, s.receiveCount.toNat⟩) ∧
    exec .rdregTxLength s = .next (s.answered ⟨true, s.txLength.toNat⟩) ∧
    exec .rdregTxFeature s = .next (s.answered ⟨true, s.txFeature.toNat⟩) ∧
    exec .rdregTxChecksum s = .next (s.answered ⟨true, s.txChecksum.toNat⟩) ∧
    exec .rdregTxFeatureset s = .next (s.answered ⟨true, (s.txFeature &&& 0xF0).toNat⟩) ∧
    exec .rdregSendcursor s = .next (s.answered ⟨true, s.sendCursor.toNat⟩) ∧
    exec .rdregStatus s = .next (s.answered ⟨true, (if s.configured then 1 else 0) +
      (if s.receiving then 2 else 0) + (if s.heartbeatDead then 4 else 0)⟩) ∧
    exec .rdregFailedcount s = .next (s.answered ⟨true, s.failedCount⟩) ∧
    exec .rdregSuccesscount s = .next (s.answered ⟨true, s.successCount⟩) ∧
    exec .rdregHbInterval s = .next (s.answered ⟨true, s.hbInterval⟩) ∧
    exec .rdregLastmessagetime s = .next (s.answered ⟨true, s.lastMessageTime⟩) ∧
    exec .rdregLastheartbeattime s = .next (s.answered ⟨true, s.lastHeartbeatTime⟩) ∧
    (∀ r : Reg, exec (.rdreg r.selector) s = exec r.instr s ∧
      ∃ v, exec (.rdreg r.selector) s = .next (s.answered ⟨true, v⟩))

/-- R140: the feature set offered to the host is `feature - (feature mod 16)`, that is `feature AND 0xF0`, of either
Message. -/
def Obligations.FeatureSetDropsLowNibble : Prop :=
  ∀ s : State,
    exec .rdregRxFeatureset s = .next (s.answered ⟨true, s.rxFeature.toNat - s.rxFeature.toNat % 16⟩) ∧
    exec .rdregTxFeatureset s = .next (s.answered ⟨true, s.txFeature.toNat - s.txFeature.toNat % 16⟩) ∧
    ∀ f : Byte, f.toNat - f.toNat % 16 = (f &&& 0xF0).toNat

/-- R195, R200, R244, R245, R280, R284 (decisions D16, D20): a host command that raises BufferOverflow is rejected with no
effect; one that raises LinkNotConfigured is accepted and writes nothing to the TX stream, and TXSEND then changes
nothing at all. -/
def Obligations.HostSideErrorsAreContained : Prop :=
  (∀ (c : Command) (s : State),
    (errorOfCommand c s = some .bufferOverflow → exec (.ofCommand c) s = .next (s.answered ⟨false, 0⟩)) ∧
    (errorOfCommand c s = some .linkNotConfigured →
      ∃ t, exec (.ofCommand c) s = .next t ∧ t.txTrace = s.txTrace ∧ t = (s.withTx t).answered ⟨true, 0⟩)) ∧
  (∀ s : State, s.configured = false → exec .txsend s = .next (s.answered ⟨true, 0⟩))

/-- R79, R190, R226, R294: no host command but POLL changes the frame being received, the RX queue, the counters or the
events; only RXGETB and RXGETW move the receive cursor; only CONNECT writes the link. -/
def Obligations.HostCommandsLeaveTheFrame : Prop :=
  ∀ (c : Command) (s t : State), c ≠ .poll → exec (.ofCommand c) s = .next t →
    t = { (t.withRx s) with
          receiveCursor := t.receiveCursor, rxq := s.rxq, failedCount := s.failedCount
          successCount := s.successCount, evTrace := s.evTrace } ∧
    (c ≠ .rxgetb → c ≠ .rxgetw → t.receiveCursor = s.receiveCursor) ∧
    (c ≠ .connect → t.configured = s.configured ∧ t.hbInterval = s.hbInterval ∧ t.heartbeatDead = s.heartbeatDead ∧
      t.lastMessageTime = s.lastMessageTime ∧ t.lastHeartbeatTime = s.lastHeartbeatTime)

/-- R248 (decision D27): inside a handler every command but POLL acts as its own rule says. -/
def Obligations.HandlerCommandsKeepTheirRules : Prop :=
  ∀ (c : Command) (s : State), c ≠ .poll → handlerCommand c s = exec (.ofCommand c) s

/-! ## The machine -/

/-- A step runs the decoded instruction, whole (R15, R240; where an instruction waits is log 3, the micro-steps as steps of
their own are D12 and log 6). -/
def Obligations.StepRunsTheDecodedInstruction : Prop :=
  (∀ (s : State) (i : Instr) (w : CmdWord) (rest : List Input), s.inputs = .command w :: rest →
    decodeCommand w = i → step s = exec i { s with inputs := rest }) ∧
  (∀ (s : State) (i : Instr) (more : List Byte) (rest : List Input), s.inputs = .receive :: rest →
    s.configured = true → decodeStream s.cfg s.receiving s.rxq = .instr i more →
    step s = exec i { s with inputs := rest, rxq := more }) ∧
  (∀ (s : State) (rest : List Input), s.inputs = .timeoutchk :: rest →
    step s = exec .timeoutchk { s with inputs := rest }) ∧
  (∀ (s : State) (rest : List Input), s.inputs = .hbtick :: rest → step s = exec .hbtick { s with inputs := rest })

/-- R44, R46, R48, R77, R288, R299: what the environment does changes its own input only; with nothing to do, and with
nothing to read, the block holds its state (the inputs are log 3). -/
def Obligations.EnvironmentChangesInputsOnly : Prop :=
  ∀ (s : State) (rest : List Input),
    (∀ b, s.inputs = .arrive b :: rest → step s = .next { s with inputs := rest, rxq := s.rxq ++ [b] }) ∧
    (∀ t, s.inputs = .clock t :: rest → step s = .next { s with inputs := rest, now := t % 2 ^ s.cfg.clockWidth }) ∧
    (∀ v, s.inputs = .strap v :: rest →
      step s = .next { s with inputs := rest, cfgHbInterval := v % 2 ^ s.cfg.clockWidth }) ∧
    (∀ h, s.inputs = .handler h :: rest → step s = .next { s with inputs := rest, handlers := s.handlers ++ [h] }) ∧
    (s.inputs = .receive :: rest → s.configured = false ∨ s.rxq = [] → step s = .next { s with inputs := rest }) ∧
    (s.inputs = [] → step s = .next s)

/-- R320, R321 (decision D28): the reset event puts every register at its reset value whatever the block was doing, writes
nothing, raises nothing, and leaves the RX queue to the transport. -/
def Obligations.ResetEventForgetsTheFrame : Prop :=
  ∀ (s : State) (rest : List Input), s.inputs = .reset :: rest →
    ∃ t, step s = .next t ∧ RxPurged t ∧ TxPurged t ∧
      t = { (s.withRx t).withTx t with
            configured := false, heartbeatDead := false, hbInterval := 0, lastMessageTime := 0
            lastHeartbeatTime := 0, failedCount := 0, successCount := 0, inputs := rest }

/-- R320, R323 (decision D28): the launch state, in every configuration: every register at its reset value, every stream and
trace empty. That the fixed reset state takes REFCFG is log 1; the inputs `now` and the strap are log 4. -/
def Obligations.LaunchStateIsReset : Prop :=
  State.reset = State.resetWith Config.reference ∧
  ∀ c : Config, (State.resetWith c).cfg = c ∧ RxPurged (State.resetWith c) ∧ TxPurged (State.resetWith c) ∧
    (State.resetWith c).configured = false ∧ (State.resetWith c).heartbeatDead = false ∧
    (State.resetWith c).hbInterval = 0 ∧ (State.resetWith c).lastMessageTime = 0 ∧
    (State.resetWith c).lastHeartbeatTime = 0 ∧ (State.resetWith c).failedCount = 0 ∧
    (State.resetWith c).successCount = 0 ∧ (State.resetWith c).rxq = [] ∧ (State.resetWith c).txTrace = [] ∧
    (State.resetWith c).evTrace = []

/-- The launch state meets the invariant, in every configuration. -/
def Obligations.LaunchStateMeetsInvariant : Prop := ∀ c : Config, Inv (State.resetWith c)

/-- R26 to R29, R33, R38 to R40, R69: every step keeps the invariant: the lengths and cursors within the capacity, the
buffers canonical and within it, the position and the accumulator those of the frame received so far, the registers within
their widths. -/
def Obligations.StepKeepsInvariant : Prop := ∀ s t : State, Inv s → step s = .next t → Inv t

/-- R68, R150, 93 section 1: from a state that meets the invariant every step completes, where the host keeps its contract
(R331); in particular no buffer index outside `0 .. CAP-1` is ever touched. -/
def Obligations.StepNeverStops : Prop := ∀ s : State, Inv s → handlersLegal s → ∃ t, step s = .next t

/-- R68: from a state that meets the invariant every instruction completes, where the host keeps its contract. -/
def Obligations.EveryInstructionCompletes : Prop :=
  ∀ (i : Instr) (s : State), Inv s → handlersLegal s → ∃ t, exec i s = .next t

/-- R248, U1, U3, U7: POLL inside a handler has no meaning and is refused by name, in every state, as the first command of a
handler and after others, in the handler of OnStatus and in that of OnMessage; and it is the one thing a step refuses: a
refused step had a handler ready that breaks the contract. (That the commands before the POLL complete takes the
invariant.) -/
def Obligations.PollInHandlerIsTheOnlyRefusal : Prop :=
  (∀ s : State, handlerCommand .poll s = .refused .pollInHandler) ∧
  (∀ (s : State) (w : CmdWord) (h : List CmdWord) (hs : List (List CmdWord)),
    s.receiving = false → s.handlers = (w :: h) :: hs → commandOf w = .poll →
    (∀ c : Nibble, exec (.status c) s = .refused .pollInHandler) ∧
    (∀ (l f k : Byte) (p : List Byte), (Instr.data l f k p).wf s.cfg = true →
      exec (.data l f k p) s = .refused .pollInHandler)) ∧
  (∀ (s : State) (h : List CmdWord) (hs : List (List CmdWord)),
    Inv s → s.receiving = false → s.handlers = h :: hs → (∃ w ∈ h, commandOf w = .poll) →
    (∀ c : Nibble, exec (.status c) s = .refused .pollInHandler) ∧
    (∀ (l f k : Byte) (p : List Byte), (Instr.data l f k p).wf s.cfg = true →
      exec (.data l f k p) s = .refused .pollInHandler)) ∧
  (∀ (s : State) (r : Refusal), step s = .refused r → r = .pollInHandler ∧ ¬ handlersLegal s)

/-- R45, R47, R66, R76: what was written or raised stays: every step extends `tx_trace` and `ev_trace` at their end. That the
answers on the response port are kept in a trace of their own, which grows alike, is the model's choice (log 12), and so is
that the parameters are a field of State, which no step changes (log 1). -/
def Obligations.TracesOnlyGrow : Prop :=
  ∀ s t : State, step s = .next t →
    s.txTrace <+: t.txTrace ∧ s.evTrace <+: t.evTrace ∧ s.rspTrace <+: t.rspTrace ∧ t.cfg = s.cfg

/-- R30, R242 (decision D13): only CONNECT configures a link, and only reset unconfigures it. -/
def Obligations.OnlyConnectConfigures : Prop :=
  ∀ (s t : State) (x : Input) (rest : List Input), s.inputs = x :: rest → step s = .next t →
    (s.configured = false → t.configured = true → ∃ w, x = .command w ∧ commandOf w = .connect) ∧
    (s.configured = true → t.configured = false → x = .reset)
end

