-- ==== Sys2Proof/Laws/Config.lean ====
section
/-! SUPPORT. The ranges of the parameters, one lemma each (00_scope.md R5 to R9). -/

namespace Sys2Proof

/-- All the ranges at once. -/
theorem Config.ranges (c : Config) :
    (1 ≤ c.cap ∧ c.cap ≤ 239) ∧ (8 ≤ c.clockWidth ∧ c.clockWidth ≤ 64) ∧ c.timeoutMs < 2 ^ c.clockWidth ∧
      (1 ≤ c.counterWidth ∧ c.counterWidth ≤ 64) ∧
      (STATUS_MIN ≤ c.stAck ∧ STATUS_MIN ≤ c.stNack ∧ STATUS_MIN ≤ c.stFail) ∧
      (c.stAck ≠ c.stNack ∧ c.stAck ≠ c.stFail ∧ c.stNack ≠ c.stFail) ∧
      (c.stAck ≠ ST_HELO ∧ c.stNack ≠ ST_HELO ∧ c.stFail ≠ ST_HELO) := by
  have h := c.legal
  simp only [Params.legal, Bool.and_eq_true, decide_eq_true_eq] at h
  tauto

theorem Config.cap_pos (c : Config) : 1 ≤ c.cap := c.ranges.1.1
theorem Config.cap_le (c : Config) : c.cap ≤ 239 := c.ranges.1.2
theorem Config.le_clockWidth (c : Config) : 8 ≤ c.clockWidth := c.ranges.2.1.1

/-- A length the buffer holds is no status code. -/
theorem Config.lt_status_of_le_cap (c : Config) {b : Byte} (h : b.toNat ≤ c.cap) : ¬ STATUS_MIN ≤ b := by
  have := c.cap_le
  rw [BitVec.le_def]
  show ¬ 240 ≤ b.toNat
  omega

end Sys2Proof
end

