-- ==== Sys2Proof/Laws/Memory.lean ====
section
/-! SUPPORT. Laws of the payload buffers: read after write, and that a write keeps the canonical form and the bounds. -/

namespace Sys2Proof.Machine

/-- Every listed index is above `k`. -/
abbrev Memory.above (k : Nat) (m : Memory) : Bool := m.all fun c => decide (k < c.1)

theorem Memory.wf_cons (k : Nat) (v : Byte) (rest : Memory) :
    Memory.wf ((k, v) :: rest) = true ↔ v ≠ BLANK ∧ rest.above k = true ∧ rest.wf = true := by
  simp [Memory.wf, Memory.above, and_assoc]

theorem Memory.above_cons (j k : Nat) (v : Byte) (rest : Memory) :
    Memory.above j ((k, v) :: rest) = true ↔ j < k ∧ rest.above j = true := by
  simp [Memory.above]

theorem Memory.above_mono {j k : Nat} (h : j ≤ k) {m : Memory} (hm : m.above k = true) : m.above j = true := by
  simp only [Memory.above, List.all_eq_true, decide_eq_true_eq] at *
  exact fun c hc => lt_of_le_of_lt h (hm c hc)

@[simp] theorem Memory.read_nil (i : Nat) : Memory.read [] i = BLANK := rfl

theorem Memory.read_cons (k : Nat) (v : Byte) (rest : Memory) (i : Nat) :
    Memory.read ((k, v) :: rest) i = if k = i then v else Memory.read rest i := rfl

/-- An index below every listed one reads BLANK. -/
theorem Memory.read_of_above {k : Nat} {m : Memory} (h : m.above k = true) {i : Nat} (hi : i ≤ k) :
    m.read i = BLANK := by
  induction m with
  | nil => rfl
  | cons c rest ih =>
    obtain ⟨j, v⟩ := c
    rw [Memory.above_cons] at h
    rw [Memory.read_cons, if_neg (by omega)]
    exact ih h.2

theorem Memory.write_above {k i : Nat} {v : Byte} {m : Memory} (h : m.above k = true) (hi : k < i) :
    (m.write i v).above k = true := by
  induction m with
  | nil =>
    unfold Memory.write
    split <;> simp [Memory.above, hi]
  | cons c rest ih =>
    obtain ⟨j, x⟩ := c
    rw [Memory.above_cons] at h
    unfold Memory.write
    split
    · split <;> simp only [Memory.above_cons, h, hi, and_self]
    · split
      · split
        · exact h.2
        · simp only [Memory.above_cons, h, hi, and_self]
      · simp only [Memory.above_cons]
        exact ⟨h.1, ih h.2⟩

/-- A write keeps the canonical form. -/
theorem Memory.write_wf {m : Memory} (h : m.wf = true) (i : Nat) (v : Byte) : (m.write i v).wf = true := by
  induction m with
  | nil =>
    unfold Memory.write
    split
    · rfl
    · rename_i hv
      rw [Memory.wf_cons]
      exact ⟨hv, rfl, rfl⟩
  | cons c rest ih =>
    obtain ⟨k, x⟩ := c
    obtain ⟨hx, ha, hr⟩ := (Memory.wf_cons k x rest).1 h
    unfold Memory.write
    split
    · rename_i hlt
      split
      · exact h
      · rename_i hv
        rw [Memory.wf_cons, Memory.above_cons]
        exact ⟨hv, ⟨hlt, Memory.above_mono (Nat.le_of_lt hlt) ha⟩, h⟩
    · split
      · rename_i heq
        split
        · exact hr
        · rename_i hv
          rw [Memory.wf_cons]
          exact ⟨hv, heq ▸ ha, hr⟩
      · rw [Memory.wf_cons]
        exact ⟨hx, Memory.write_above ha (by omega), ih hr⟩

/-- A write inside the buffer lists no index outside it. -/
theorem Memory.write_within {cap : Nat} {m : Memory} (h : m.within cap = true) {i : Nat} (hi : i < cap) (v : Byte) :
    (m.write i v).within cap = true := by
  induction m with
  | nil =>
    unfold Memory.write
    split <;> simp [Memory.within, hi]
  | cons c rest ih =>
    obtain ⟨k, x⟩ := c
    simp only [Memory.within, List.all_cons, Bool.and_eq_true, decide_eq_true_eq] at h ih
    unfold Memory.write
    split
    · split <;> simp [Memory.within, h.1, hi] <;> simpa using h.2
    · split
      · split <;> simp [Memory.within, hi] <;> simpa using h.2
      · simp only [Memory.within, List.all_cons, Bool.and_eq_true, decide_eq_true_eq]
        exact ⟨h.1, ih h.2⟩

/-- Read after write. -/
theorem Memory.read_write {m : Memory} (h : m.wf = true) (i : Nat) (v : Byte) (j : Nat) :
    (m.write i v).read j = if j = i then v else m.read j := by
  induction m with
  | nil =>
    unfold Memory.write
    split <;> rename_i hv
    · by_cases hj : j = i <;> simp [hj, hv]
    · simp only [Memory.read_cons, Memory.read_nil, eq_comm]
  | cons c rest ih =>
    obtain ⟨k, x⟩ := c
    obtain ⟨hx, ha, hr⟩ := (Memory.wf_cons k x rest).1 h
    unfold Memory.write
    split
    · rename_i hlt
      split
      · rename_i hv
        by_cases hj : j = i
        · subst hj
          rw [if_pos rfl, hv]
          exact Memory.read_of_above (k := j) (by
            rw [Memory.above_cons]; exact ⟨hlt, Memory.above_mono (Nat.le_of_lt hlt) ha⟩) (Nat.le_refl j)
        · rw [if_neg hj]
      · rw [Memory.read_cons]
        simp only [eq_comm]
    · split
      · rename_i heq
        subst heq
        split
        · rename_i hv
          by_cases hj : j = i
          · subst hj
            rw [if_pos rfl, hv]
            exact Memory.read_of_above ha (Nat.le_refl j)
          · rw [if_neg hj, Memory.read_cons, if_neg (fun h => hj h.symm)]
        · rw [Memory.read_cons, Memory.read_cons]
          by_cases hj : j = i
          · simp [hj]
          · rw [if_neg (fun h => hj h.symm), if_neg hj, if_neg (fun h => hj h.symm)]
      · rename_i hnlt hne
        rw [Memory.read_cons, Memory.read_cons, ih hr]
        by_cases hj : k = j
        · rw [if_pos hj, if_pos hj, if_neg (by omega)]
        · rw [if_neg hj, if_neg hj]

/-- Two canonical buffers that read alike are equal. -/
theorem Memory.ext_read {m n : Memory} (hm : m.wf = true) (hn : n.wf = true) (h : ∀ i, m.read i = n.read i) :
    m = n := by
  induction m generalizing n with
  | nil =>
    cases n with
    | nil => rfl
    | cons c rest =>
      obtain ⟨k, v⟩ := c
      have := h k
      rw [Memory.read_cons, if_pos rfl, Memory.read_nil] at this
      exact absurd this.symm ((Memory.wf_cons k v rest).1 hn).1
  | cons c rest ih =>
    obtain ⟨k, v⟩ := c
    obtain ⟨hv, ha, hr⟩ := (Memory.wf_cons k v rest).1 hm
    cases n with
    | nil =>
      have := h k
      rw [Memory.read_cons, if_pos rfl, Memory.read_nil] at this
      exact absurd this hv
    | cons d tail =>
      obtain ⟨j, w⟩ := d
      obtain ⟨hw, hb, ht⟩ := (Memory.wf_cons j w tail).1 hn
      have hkj : k = j := by
        rcases Nat.lt_trichotomy k j with hlt | heq | hlt
        · have := h k
          rw [Memory.read_cons, if_pos rfl, Memory.read_cons, if_neg (by omega),
            Memory.read_of_above (Memory.above_mono (Nat.le_of_lt hlt) hb) (Nat.le_refl k)] at this
          exact absurd this hv
        · exact heq
        · have := h j
          rw [Memory.read_cons, if_neg (by omega), Memory.read_cons, if_pos rfl,
            Memory.read_of_above (Memory.above_mono (Nat.le_of_lt hlt) ha) (Nat.le_refl j)] at this
          exact absurd this.symm hw
      subst hkj
      have hvw : v = w := by simpa [Memory.read_cons] using h k
      subst hvw
      rw [ih hr ht fun i => by
        by_cases hi : k = i
        · subst hi
          rw [Memory.read_of_above ha (Nat.le_refl k), Memory.read_of_above hb (Nat.le_refl k)]
        · simpa [Memory.read_cons, hi] using h i]

@[simp] theorem Memory.firstBytes_length (m : Memory) (n : Nat) : (m.firstBytes n).length = n := by
  simp [Memory.firstBytes]

@[simp] theorem Memory.firstBytes_zero (m : Memory) : m.firstBytes 0 = [] := rfl

theorem Memory.firstBytes_succ (m : Memory) (n : Nat) : m.firstBytes (n + 1) = m.firstBytes n ++ [m.read n] := by
  simp [Memory.firstBytes, List.range_succ]

theorem Memory.firstBytes_congr {m n : Memory} {k : Nat} (h : ∀ i, i < k → m.read i = n.read i) :
    m.firstBytes k = n.firstBytes k := by
  simp only [Memory.firstBytes, List.map_inj_left, List.mem_range]
  exact h

/-- A write at or past the end of the first bytes leaves them alone. -/
theorem Memory.firstBytes_write {m : Memory} (h : m.wf = true) {i n : Nat} (hi : n ≤ i) (v : Byte) :
    (m.write i v).firstBytes n = m.firstBytes n :=
  Memory.firstBytes_congr fun j hj => by rw [Memory.read_write h, if_neg (by omega)]

/-- Where the scan of TXLENAUTO stops (R194): the least blank index from `i`, or the end. -/
theorem Memory.firstBlankFrom_spec (m : Memory) (i n : Nat) :
    i ≤ m.firstBlankFrom i n ∧ m.firstBlankFrom i n ≤ i + n ∧
      (∀ j, i ≤ j → j < m.firstBlankFrom i n → m.read j ≠ BLANK) ∧
      (m.firstBlankFrom i n < i + n → m.read (m.firstBlankFrom i n) = BLANK) := by
  induction n generalizing i with
  | zero =>
    refine ⟨Nat.le_refl i, Nat.le_refl i, fun j h1 h2 => ?_, fun h => ?_⟩
    · simp only [Memory.firstBlankFrom] at h2; omega
    · simp only [Memory.firstBlankFrom] at h; omega
  | succ n ih =>
    unfold Memory.firstBlankFrom
    split
    · rename_i hb
      exact ⟨Nat.le_refl i, by omega, fun j h1 h2 => by omega, fun _ => hb⟩
    · rename_i hb
      obtain ⟨h1, h2, h3, h4⟩ := ih (i + 1)
      refine ⟨by omega, by omega, fun j hj1 hj2 => ?_, fun h => h4 (by omega)⟩
      by_cases hj : j = i
      · exact hj ▸ hb
      · exact h3 j (by omega) hj2

end Sys2Proof.Machine
end

