-- ==== Sys2Proof/Laws/State.lean ====
section
/-! SUPPORT. One lemma per field of State for each named update, so that no later proof unfolds a record update. -/

namespace Sys2Proof.Machine

@[simp] theorem answer_cfg (r : Response) (s : State) : (answer r s).cfg = s.cfg := rfl
@[simp] theorem answer_rxLength (r : Response) (s : State) : (answer r s).rxLength = s.rxLength := rfl
@[simp] theorem answer_rxFeature (r : Response) (s : State) : (answer r s).rxFeature = s.rxFeature := rfl
@[simp] theorem answer_rxChecksum (r : Response) (s : State) : (answer r s).rxChecksum = s.rxChecksum := rfl
@[simp] theorem answer_rxData (r : Response) (s : State) : (answer r s).rxData = s.rxData := rfl
@[simp] theorem answer_txLength (r : Response) (s : State) : (answer r s).txLength = s.txLength := rfl
@[simp] theorem answer_txFeature (r : Response) (s : State) : (answer r s).txFeature = s.txFeature := rfl
@[simp] theorem answer_txChecksum (r : Response) (s : State) : (answer r s).txChecksum = s.txChecksum := rfl
@[simp] theorem answer_txData (r : Response) (s : State) : (answer r s).txData = s.txData := rfl
@[simp] theorem answer_receiveCount (r : Response) (s : State) : (answer r s).receiveCount = s.receiveCount := rfl
@[simp] theorem answer_receiving (r : Response) (s : State) : (answer r s).receiving = s.receiving := rfl
@[simp] theorem answer_configured (r : Response) (s : State) : (answer r s).configured = s.configured := rfl
@[simp] theorem answer_heartbeatDead (r : Response) (s : State) : (answer r s).heartbeatDead = s.heartbeatDead := rfl
@[simp] theorem answer_hbInterval (r : Response) (s : State) : (answer r s).hbInterval = s.hbInterval := rfl
@[simp] theorem answer_lastMessageTime (r : Response) (s : State) : (answer r s).lastMessageTime = s.lastMessageTime := rfl
@[simp] theorem answer_lastHeartbeatTime (r : Response) (s : State) : (answer r s).lastHeartbeatTime = s.lastHeartbeatTime := rfl
@[simp] theorem answer_failedCount (r : Response) (s : State) : (answer r s).failedCount = s.failedCount := rfl
@[simp] theorem answer_successCount (r : Response) (s : State) : (answer r s).successCount = s.successCount := rfl
@[simp] theorem answer_sendCursor (r : Response) (s : State) : (answer r s).sendCursor = s.sendCursor := rfl
@[simp] theorem answer_receiveCursor (r : Response) (s : State) : (answer r s).receiveCursor = s.receiveCursor := rfl
@[simp] theorem answer_acc (r : Response) (s : State) : (answer r s).acc = s.acc := rfl
@[simp] theorem answer_rxq (r : Response) (s : State) : (answer r s).rxq = s.rxq := rfl
@[simp] theorem answer_txTrace (r : Response) (s : State) : (answer r s).txTrace = s.txTrace := rfl
@[simp] theorem answer_evTrace (r : Response) (s : State) : (answer r s).evTrace = s.evTrace := rfl
@[simp] theorem answer_now (r : Response) (s : State) : (answer r s).now = s.now := rfl
@[simp] theorem answer_cfgHbInterval (r : Response) (s : State) : (answer r s).cfgHbInterval = s.cfgHbInterval := rfl
@[simp] theorem answer_handlers (r : Response) (s : State) : (answer r s).handlers = s.handlers := rfl
@[simp] theorem answer_rspTrace (r : Response) (s : State) : (answer r s).rspTrace = s.rspTrace ++ [r] := rfl
@[simp] theorem answer_inputs (r : Response) (s : State) : (answer r s).inputs = s.inputs := rfl

@[simp] theorem txWrite_cfg (b : Byte) (s : State) : (txWrite b s).cfg = s.cfg := rfl
@[simp] theorem txWrite_rxLength (b : Byte) (s : State) : (txWrite b s).rxLength = s.rxLength := rfl
@[simp] theorem txWrite_rxFeature (b : Byte) (s : State) : (txWrite b s).rxFeature = s.rxFeature := rfl
@[simp] theorem txWrite_rxChecksum (b : Byte) (s : State) : (txWrite b s).rxChecksum = s.rxChecksum := rfl
@[simp] theorem txWrite_rxData (b : Byte) (s : State) : (txWrite b s).rxData = s.rxData := rfl
@[simp] theorem txWrite_txLength (b : Byte) (s : State) : (txWrite b s).txLength = s.txLength := rfl
@[simp] theorem txWrite_txFeature (b : Byte) (s : State) : (txWrite b s).txFeature = s.txFeature := rfl
@[simp] theorem txWrite_txChecksum (b : Byte) (s : State) : (txWrite b s).txChecksum = s.txChecksum := rfl
@[simp] theorem txWrite_txData (b : Byte) (s : State) : (txWrite b s).txData = s.txData := rfl
@[simp] theorem txWrite_receiveCount (b : Byte) (s : State) : (txWrite b s).receiveCount = s.receiveCount := rfl
@[simp] theorem txWrite_receiving (b : Byte) (s : State) : (txWrite b s).receiving = s.receiving := rfl
@[simp] theorem txWrite_configured (b : Byte) (s : State) : (txWrite b s).configured = s.configured := rfl
@[simp] theorem txWrite_heartbeatDead (b : Byte) (s : State) : (txWrite b s).heartbeatDead = s.heartbeatDead := rfl
@[simp] theorem txWrite_hbInterval (b : Byte) (s : State) : (txWrite b s).hbInterval = s.hbInterval := rfl
@[simp] theorem txWrite_lastMessageTime (b : Byte) (s : State) : (txWrite b s).lastMessageTime = s.lastMessageTime := rfl
@[simp] theorem txWrite_lastHeartbeatTime (b : Byte) (s : State) : (txWrite b s).lastHeartbeatTime = s.lastHeartbeatTime := rfl
@[simp] theorem txWrite_failedCount (b : Byte) (s : State) : (txWrite b s).failedCount = s.failedCount := rfl
@[simp] theorem txWrite_successCount (b : Byte) (s : State) : (txWrite b s).successCount = s.successCount := rfl
@[simp] theorem txWrite_sendCursor (b : Byte) (s : State) : (txWrite b s).sendCursor = s.sendCursor := rfl
@[simp] theorem txWrite_receiveCursor (b : Byte) (s : State) : (txWrite b s).receiveCursor = s.receiveCursor := rfl
@[simp] theorem txWrite_acc (b : Byte) (s : State) : (txWrite b s).acc = s.acc := rfl
@[simp] theorem txWrite_rxq (b : Byte) (s : State) : (txWrite b s).rxq = s.rxq := rfl
@[simp] theorem txWrite_txTrace (b : Byte) (s : State) : (txWrite b s).txTrace = s.txTrace ++ [b] := rfl
@[simp] theorem txWrite_evTrace (b : Byte) (s : State) : (txWrite b s).evTrace = s.evTrace := rfl
@[simp] theorem txWrite_now (b : Byte) (s : State) : (txWrite b s).now = s.now := rfl
@[simp] theorem txWrite_cfgHbInterval (b : Byte) (s : State) : (txWrite b s).cfgHbInterval = s.cfgHbInterval := rfl
@[simp] theorem txWrite_handlers (b : Byte) (s : State) : (txWrite b s).handlers = s.handlers := rfl
@[simp] theorem txWrite_rspTrace (b : Byte) (s : State) : (txWrite b s).rspTrace = s.rspTrace := rfl
@[simp] theorem txWrite_inputs (b : Byte) (s : State) : (txWrite b s).inputs = s.inputs := rfl

@[simp] theorem txWriteAll_cfg (bs : List Byte) (s : State) : (txWriteAll bs s).cfg = s.cfg := rfl
@[simp] theorem txWriteAll_rxLength (bs : List Byte) (s : State) : (txWriteAll bs s).rxLength = s.rxLength := rfl
@[simp] theorem txWriteAll_rxFeature (bs : List Byte) (s : State) : (txWriteAll bs s).rxFeature = s.rxFeature := rfl
@[simp] theorem txWriteAll_rxChecksum (bs : List Byte) (s : State) : (txWriteAll bs s).rxChecksum = s.rxChecksum := rfl
@[simp] theorem txWriteAll_rxData (bs : List Byte) (s : State) : (txWriteAll bs s).rxData = s.rxData := rfl
@[simp] theorem txWriteAll_txLength (bs : List Byte) (s : State) : (txWriteAll bs s).txLength = s.txLength := rfl
@[simp] theorem txWriteAll_txFeature (bs : List Byte) (s : State) : (txWriteAll bs s).txFeature = s.txFeature := rfl
@[simp] theorem txWriteAll_txChecksum (bs : List Byte) (s : State) : (txWriteAll bs s).txChecksum = s.txChecksum := rfl
@[simp] theorem txWriteAll_txData (bs : List Byte) (s : State) : (txWriteAll bs s).txData = s.txData := rfl
@[simp] theorem txWriteAll_receiveCount (bs : List Byte) (s : State) : (txWriteAll bs s).receiveCount = s.receiveCount := rfl
@[simp] theorem txWriteAll_receiving (bs : List Byte) (s : State) : (txWriteAll bs s).receiving = s.receiving := rfl
@[simp] theorem txWriteAll_configured (bs : List Byte) (s : State) : (txWriteAll bs s).configured = s.configured := rfl
@[simp] theorem txWriteAll_heartbeatDead (bs : List Byte) (s : State) : (txWriteAll bs s).heartbeatDead = s.heartbeatDead := rfl
@[simp] theorem txWriteAll_hbInterval (bs : List Byte) (s : State) : (txWriteAll bs s).hbInterval = s.hbInterval := rfl
@[simp] theorem txWriteAll_lastMessageTime (bs : List Byte) (s : State) : (txWriteAll bs s).lastMessageTime = s.lastMessageTime := rfl
@[simp] theorem txWriteAll_lastHeartbeatTime (bs : List Byte) (s : State) : (txWriteAll bs s).lastHeartbeatTime = s.lastHeartbeatTime := rfl
@[simp] theorem txWriteAll_failedCount (bs : List Byte) (s : State) : (txWriteAll bs s).failedCount = s.failedCount := rfl
@[simp] theorem txWriteAll_successCount (bs : List Byte) (s : State) : (txWriteAll bs s).successCount = s.successCount := rfl
@[simp] theorem txWriteAll_sendCursor (bs : List Byte) (s : State) : (txWriteAll bs s).sendCursor = s.sendCursor := rfl
@[simp] theorem txWriteAll_receiveCursor (bs : List Byte) (s : State) : (txWriteAll bs s).receiveCursor = s.receiveCursor := rfl
@[simp] theorem txWriteAll_acc (bs : List Byte) (s : State) : (txWriteAll bs s).acc = s.acc := rfl
@[simp] theorem txWriteAll_rxq (bs : List Byte) (s : State) : (txWriteAll bs s).rxq = s.rxq := rfl
@[simp] theorem txWriteAll_txTrace (bs : List Byte) (s : State) : (txWriteAll bs s).txTrace = s.txTrace ++ bs := rfl
@[simp] theorem txWriteAll_evTrace (bs : List Byte) (s : State) : (txWriteAll bs s).evTrace = s.evTrace := rfl
@[simp] theorem txWriteAll_now (bs : List Byte) (s : State) : (txWriteAll bs s).now = s.now := rfl
@[simp] theorem txWriteAll_cfgHbInterval (bs : List Byte) (s : State) : (txWriteAll bs s).cfgHbInterval = s.cfgHbInterval := rfl
@[simp] theorem txWriteAll_handlers (bs : List Byte) (s : State) : (txWriteAll bs s).handlers = s.handlers := rfl
@[simp] theorem txWriteAll_rspTrace (bs : List Byte) (s : State) : (txWriteAll bs s).rspTrace = s.rspTrace := rfl
@[simp] theorem txWriteAll_inputs (bs : List Byte) (s : State) : (txWriteAll bs s).inputs = s.inputs := rfl

@[simp] theorem countFailed_cfg (s : State) : (countFailed s).cfg = s.cfg := rfl
@[simp] theorem countFailed_rxLength (s : State) : (countFailed s).rxLength = s.rxLength := rfl
@[simp] theorem countFailed_rxFeature (s : State) : (countFailed s).rxFeature = s.rxFeature := rfl
@[simp] theorem countFailed_rxChecksum (s : State) : (countFailed s).rxChecksum = s.rxChecksum := rfl
@[simp] theorem countFailed_rxData (s : State) : (countFailed s).rxData = s.rxData := rfl
@[simp] theorem countFailed_txLength (s : State) : (countFailed s).txLength = s.txLength := rfl
@[simp] theorem countFailed_txFeature (s : State) : (countFailed s).txFeature = s.txFeature := rfl
@[simp] theorem countFailed_txChecksum (s : State) : (countFailed s).txChecksum = s.txChecksum := rfl
@[simp] theorem countFailed_txData (s : State) : (countFailed s).txData = s.txData := rfl
@[simp] theorem countFailed_receiveCount (s : State) : (countFailed s).receiveCount = s.receiveCount := rfl
@[simp] theorem countFailed_receiving (s : State) : (countFailed s).receiving = s.receiving := rfl
@[simp] theorem countFailed_configured (s : State) : (countFailed s).configured = s.configured := rfl
@[simp] theorem countFailed_heartbeatDead (s : State) : (countFailed s).heartbeatDead = s.heartbeatDead := rfl
@[simp] theorem countFailed_hbInterval (s : State) : (countFailed s).hbInterval = s.hbInterval := rfl
@[simp] theorem countFailed_lastMessageTime (s : State) : (countFailed s).lastMessageTime = s.lastMessageTime := rfl
@[simp] theorem countFailed_lastHeartbeatTime (s : State) : (countFailed s).lastHeartbeatTime = s.lastHeartbeatTime := rfl
@[simp] theorem countFailed_failedCount (s : State) : (countFailed s).failedCount = (s.failedCount + 1) % 2 ^ s.cfg.counterWidth := rfl
@[simp] theorem countFailed_successCount (s : State) : (countFailed s).successCount = s.successCount := rfl
@[simp] theorem countFailed_sendCursor (s : State) : (countFailed s).sendCursor = s.sendCursor := rfl
@[simp] theorem countFailed_receiveCursor (s : State) : (countFailed s).receiveCursor = s.receiveCursor := rfl
@[simp] theorem countFailed_acc (s : State) : (countFailed s).acc = s.acc := rfl
@[simp] theorem countFailed_rxq (s : State) : (countFailed s).rxq = s.rxq := rfl
@[simp] theorem countFailed_txTrace (s : State) : (countFailed s).txTrace = s.txTrace := rfl
@[simp] theorem countFailed_evTrace (s : State) : (countFailed s).evTrace = s.evTrace := rfl
@[simp] theorem countFailed_now (s : State) : (countFailed s).now = s.now := rfl
@[simp] theorem countFailed_cfgHbInterval (s : State) : (countFailed s).cfgHbInterval = s.cfgHbInterval := rfl
@[simp] theorem countFailed_handlers (s : State) : (countFailed s).handlers = s.handlers := rfl
@[simp] theorem countFailed_rspTrace (s : State) : (countFailed s).rspTrace = s.rspTrace := rfl
@[simp] theorem countFailed_inputs (s : State) : (countFailed s).inputs = s.inputs := rfl

@[simp] theorem countSuccess_cfg (s : State) : (countSuccess s).cfg = s.cfg := rfl
@[simp] theorem countSuccess_rxLength (s : State) : (countSuccess s).rxLength = s.rxLength := rfl
@[simp] theorem countSuccess_rxFeature (s : State) : (countSuccess s).rxFeature = s.rxFeature := rfl
@[simp] theorem countSuccess_rxChecksum (s : State) : (countSuccess s).rxChecksum = s.rxChecksum := rfl
@[simp] theorem countSuccess_rxData (s : State) : (countSuccess s).rxData = s.rxData := rfl
@[simp] theorem countSuccess_txLength (s : State) : (countSuccess s).txLength = s.txLength := rfl
@[simp] theorem countSuccess_txFeature (s : State) : (countSuccess s).txFeature = s.txFeature := rfl
@[simp] theorem countSuccess_txChecksum (s : State) : (countSuccess s).txChecksum = s.txChecksum := rfl
@[simp] theorem countSuccess_txData (s : State) : (countSuccess s).txData = s.txData := rfl
@[simp] theorem countSuccess_receiveCount (s : State) : (countSuccess s).receiveCount = s.receiveCount := rfl
@[simp] theorem countSuccess_receiving (s : State) : (countSuccess s).receiving = s.receiving := rfl
@[simp] theorem countSuccess_configured (s : State) : (countSuccess s).configured = s.configured := rfl
@[simp] theorem countSuccess_heartbeatDead (s : State) : (countSuccess s).heartbeatDead = s.heartbeatDead := rfl
@[simp] theorem countSuccess_hbInterval (s : State) : (countSuccess s).hbInterval = s.hbInterval := rfl
@[simp] theorem countSuccess_lastMessageTime (s : State) : (countSuccess s).lastMessageTime = s.lastMessageTime := rfl
@[simp] theorem countSuccess_lastHeartbeatTime (s : State) : (countSuccess s).lastHeartbeatTime = s.lastHeartbeatTime := rfl
@[simp] theorem countSuccess_failedCount (s : State) : (countSuccess s).failedCount = s.failedCount := rfl
@[simp] theorem countSuccess_successCount (s : State) : (countSuccess s).successCount = (s.successCount + 1) % 2 ^ s.cfg.counterWidth := rfl
@[simp] theorem countSuccess_sendCursor (s : State) : (countSuccess s).sendCursor = s.sendCursor := rfl
@[simp] theorem countSuccess_receiveCursor (s : State) : (countSuccess s).receiveCursor = s.receiveCursor := rfl
@[simp] theorem countSuccess_acc (s : State) : (countSuccess s).acc = s.acc := rfl
@[simp] theorem countSuccess_rxq (s : State) : (countSuccess s).rxq = s.rxq := rfl
@[simp] theorem countSuccess_txTrace (s : State) : (countSuccess s).txTrace = s.txTrace := rfl
@[simp] theorem countSuccess_evTrace (s : State) : (countSuccess s).evTrace = s.evTrace := rfl
@[simp] theorem countSuccess_now (s : State) : (countSuccess s).now = s.now := rfl
@[simp] theorem countSuccess_cfgHbInterval (s : State) : (countSuccess s).cfgHbInterval = s.cfgHbInterval := rfl
@[simp] theorem countSuccess_handlers (s : State) : (countSuccess s).handlers = s.handlers := rfl
@[simp] theorem countSuccess_rspTrace (s : State) : (countSuccess s).rspTrace = s.rspTrace := rfl
@[simp] theorem countSuccess_inputs (s : State) : (countSuccess s).inputs = s.inputs := rfl

@[simp] theorem purgeRx_cfg (s : State) : (purgeRx s).cfg = s.cfg := rfl
@[simp] theorem purgeRx_rxLength (s : State) : (purgeRx s).rxLength = 0 := rfl
@[simp] theorem purgeRx_rxFeature (s : State) : (purgeRx s).rxFeature = 0 := rfl
@[simp] theorem purgeRx_rxChecksum (s : State) : (purgeRx s).rxChecksum = 0 := rfl
@[simp] theorem purgeRx_rxData (s : State) : (purgeRx s).rxData = [] := rfl
@[simp] theorem purgeRx_txLength (s : State) : (purgeRx s).txLength = s.txLength := rfl
@[simp] theorem purgeRx_txFeature (s : State) : (purgeRx s).txFeature = s.txFeature := rfl
@[simp] theorem purgeRx_txChecksum (s : State) : (purgeRx s).txChecksum = s.txChecksum := rfl
@[simp] theorem purgeRx_txData (s : State) : (purgeRx s).txData = s.txData := rfl
@[simp] theorem purgeRx_receiveCount (s : State) : (purgeRx s).receiveCount = 0 := rfl
@[simp] theorem purgeRx_receiving (s : State) : (purgeRx s).receiving = false := rfl
@[simp] theorem purgeRx_configured (s : State) : (purgeRx s).configured = s.configured := rfl
@[simp] theorem purgeRx_heartbeatDead (s : State) : (purgeRx s).heartbeatDead = s.heartbeatDead := rfl
@[simp] theorem purgeRx_hbInterval (s : State) : (purgeRx s).hbInterval = s.hbInterval := rfl
@[simp] theorem purgeRx_lastMessageTime (s : State) : (purgeRx s).lastMessageTime = s.lastMessageTime := rfl
@[simp] theorem purgeRx_lastHeartbeatTime (s : State) : (purgeRx s).lastHeartbeatTime = s.lastHeartbeatTime := rfl
@[simp] theorem purgeRx_failedCount (s : State) : (purgeRx s).failedCount = s.failedCount := rfl
@[simp] theorem purgeRx_successCount (s : State) : (purgeRx s).successCount = s.successCount := rfl
@[simp] theorem purgeRx_sendCursor (s : State) : (purgeRx s).sendCursor = s.sendCursor := rfl
@[simp] theorem purgeRx_receiveCursor (s : State) : (purgeRx s).receiveCursor = 0 := rfl
@[simp] theorem purgeRx_acc (s : State) : (purgeRx s).acc = 0 := rfl
@[simp] theorem purgeRx_rxq (s : State) : (purgeRx s).rxq = s.rxq := rfl
@[simp] theorem purgeRx_txTrace (s : State) : (purgeRx s).txTrace = s.txTrace := rfl
@[simp] theorem purgeRx_evTrace (s : State) : (purgeRx s).evTrace = s.evTrace := rfl
@[simp] theorem purgeRx_now (s : State) : (purgeRx s).now = s.now := rfl
@[simp] theorem purgeRx_cfgHbInterval (s : State) : (purgeRx s).cfgHbInterval = s.cfgHbInterval := rfl
@[simp] theorem purgeRx_handlers (s : State) : (purgeRx s).handlers = s.handlers := rfl
@[simp] theorem purgeRx_rspTrace (s : State) : (purgeRx s).rspTrace = s.rspTrace := rfl
@[simp] theorem purgeRx_inputs (s : State) : (purgeRx s).inputs = s.inputs := rfl

@[simp] theorem purgeTx_cfg (s : State) : (purgeTx s).cfg = s.cfg := rfl
@[simp] theorem purgeTx_rxLength (s : State) : (purgeTx s).rxLength = s.rxLength := rfl
@[simp] theorem purgeTx_rxFeature (s : State) : (purgeTx s).rxFeature = s.rxFeature := rfl
@[simp] theorem purgeTx_rxChecksum (s : State) : (purgeTx s).rxChecksum = s.rxChecksum := rfl
@[simp] theorem purgeTx_rxData (s : State) : (purgeTx s).rxData = s.rxData := rfl
@[simp] theorem purgeTx_txLength (s : State) : (purgeTx s).txLength = 0 := rfl
@[simp] theorem purgeTx_txFeature (s : State) : (purgeTx s).txFeature = 0 := rfl
@[simp] theorem purgeTx_txChecksum (s : State) : (purgeTx s).txChecksum = 0 := rfl
@[simp] theorem purgeTx_txData (s : State) : (purgeTx s).txData = [] := rfl
@[simp] theorem purgeTx_receiveCount (s : State) : (purgeTx s).receiveCount = s.receiveCount := rfl
@[simp] theorem purgeTx_receiving (s : State) : (purgeTx s).receiving = s.receiving := rfl
@[simp] theorem purgeTx_configured (s : State) : (purgeTx s).configured = s.configured := rfl
@[simp] theorem purgeTx_heartbeatDead (s : State) : (purgeTx s).heartbeatDead = s.heartbeatDead := rfl
@[simp] theorem purgeTx_hbInterval (s : State) : (purgeTx s).hbInterval = s.hbInterval := rfl
@[simp] theorem purgeTx_lastMessageTime (s : State) : (purgeTx s).lastMessageTime = s.lastMessageTime := rfl
@[simp] theorem purgeTx_lastHeartbeatTime (s : State) : (purgeTx s).lastHeartbeatTime = s.lastHeartbeatTime := rfl
@[simp] theorem purgeTx_failedCount (s : State) : (purgeTx s).failedCount = s.failedCount := rfl
@[simp] theorem purgeTx_successCount (s : State) : (purgeTx s).successCount = s.successCount := rfl
@[simp] theorem purgeTx_sendCursor (s : State) : (purgeTx s).sendCursor = 0 := rfl
@[simp] theorem purgeTx_receiveCursor (s : State) : (purgeTx s).receiveCursor = s.receiveCursor := rfl
@[simp] theorem purgeTx_acc (s : State) : (purgeTx s).acc = s.acc := rfl
@[simp] theorem purgeTx_rxq (s : State) : (purgeTx s).rxq = s.rxq := rfl
@[simp] theorem purgeTx_txTrace (s : State) : (purgeTx s).txTrace = s.txTrace := rfl
@[simp] theorem purgeTx_evTrace (s : State) : (purgeTx s).evTrace = s.evTrace := rfl
@[simp] theorem purgeTx_now (s : State) : (purgeTx s).now = s.now := rfl
@[simp] theorem purgeTx_cfgHbInterval (s : State) : (purgeTx s).cfgHbInterval = s.cfgHbInterval := rfl
@[simp] theorem purgeTx_handlers (s : State) : (purgeTx s).handlers = s.handlers := rfl
@[simp] theorem purgeTx_rspTrace (s : State) : (purgeTx s).rspTrace = s.rspTrace := rfl
@[simp] theorem purgeTx_inputs (s : State) : (purgeTx s).inputs = s.inputs := rfl

@[simp] theorem rxPrologue_cfg (s : State) : (rxPrologue s).cfg = s.cfg := rfl
@[simp] theorem rxPrologue_rxLength (s : State) : (rxPrologue s).rxLength = s.rxLength := rfl
@[simp] theorem rxPrologue_rxFeature (s : State) : (rxPrologue s).rxFeature = s.rxFeature := rfl
@[simp] theorem rxPrologue_rxChecksum (s : State) : (rxPrologue s).rxChecksum = s.rxChecksum := rfl
@[simp] theorem rxPrologue_rxData (s : State) : (rxPrologue s).rxData = s.rxData := rfl
@[simp] theorem rxPrologue_txLength (s : State) : (rxPrologue s).txLength = s.txLength := rfl
@[simp] theorem rxPrologue_txFeature (s : State) : (rxPrologue s).txFeature = s.txFeature := rfl
@[simp] theorem rxPrologue_txChecksum (s : State) : (rxPrologue s).txChecksum = s.txChecksum := rfl
@[simp] theorem rxPrologue_txData (s : State) : (rxPrologue s).txData = s.txData := rfl
@[simp] theorem rxPrologue_receiveCount (s : State) : (rxPrologue s).receiveCount = s.receiveCount := rfl
@[simp] theorem rxPrologue_receiving (s : State) : (rxPrologue s).receiving = s.receiving := rfl
@[simp] theorem rxPrologue_configured (s : State) : (rxPrologue s).configured = s.configured := rfl
@[simp] theorem rxPrologue_heartbeatDead (s : State) : (rxPrologue s).heartbeatDead = false := rfl
@[simp] theorem rxPrologue_hbInterval (s : State) : (rxPrologue s).hbInterval = s.hbInterval := rfl
@[simp] theorem rxPrologue_lastMessageTime (s : State) : (rxPrologue s).lastMessageTime = s.now := rfl
@[simp] theorem rxPrologue_lastHeartbeatTime (s : State) : (rxPrologue s).lastHeartbeatTime = s.lastHeartbeatTime := rfl
@[simp] theorem rxPrologue_failedCount (s : State) : (rxPrologue s).failedCount = s.failedCount := rfl
@[simp] theorem rxPrologue_successCount (s : State) : (rxPrologue s).successCount = s.successCount := rfl
@[simp] theorem rxPrologue_sendCursor (s : State) : (rxPrologue s).sendCursor = s.sendCursor := rfl
@[simp] theorem rxPrologue_receiveCursor (s : State) : (rxPrologue s).receiveCursor = s.receiveCursor := rfl
@[simp] theorem rxPrologue_acc (s : State) : (rxPrologue s).acc = s.acc := rfl
@[simp] theorem rxPrologue_rxq (s : State) : (rxPrologue s).rxq = s.rxq := rfl
@[simp] theorem rxPrologue_txTrace (s : State) : (rxPrologue s).txTrace = s.txTrace := rfl
@[simp] theorem rxPrologue_evTrace (s : State) : (rxPrologue s).evTrace = s.evTrace := rfl
@[simp] theorem rxPrologue_now (s : State) : (rxPrologue s).now = s.now := rfl
@[simp] theorem rxPrologue_cfgHbInterval (s : State) : (rxPrologue s).cfgHbInterval = s.cfgHbInterval := rfl
@[simp] theorem rxPrologue_handlers (s : State) : (rxPrologue s).handlers = s.handlers := rfl
@[simp] theorem rxPrologue_rspTrace (s : State) : (rxPrologue s).rspTrace = s.rspTrace := rfl
@[simp] theorem rxPrologue_inputs (s : State) : (rxPrologue s).inputs = s.inputs := rfl

@[simp] theorem rxAdvance_cfg (b : Byte) (s : State) : (rxAdvance b s).cfg = s.cfg := rfl
@[simp] theorem rxAdvance_rxLength (b : Byte) (s : State) : (rxAdvance b s).rxLength = s.rxLength := rfl
@[simp] theorem rxAdvance_rxFeature (b : Byte) (s : State) : (rxAdvance b s).rxFeature = s.rxFeature := rfl
@[simp] theorem rxAdvance_rxChecksum (b : Byte) (s : State) : (rxAdvance b s).rxChecksum = s.rxChecksum := rfl
@[simp] theorem rxAdvance_rxData (b : Byte) (s : State) : (rxAdvance b s).rxData = s.rxData := rfl
@[simp] theorem rxAdvance_txLength (b : Byte) (s : State) : (rxAdvance b s).txLength = s.txLength := rfl
@[simp] theorem rxAdvance_txFeature (b : Byte) (s : State) : (rxAdvance b s).txFeature = s.txFeature := rfl
@[simp] theorem rxAdvance_txChecksum (b : Byte) (s : State) : (rxAdvance b s).txChecksum = s.txChecksum := rfl
@[simp] theorem rxAdvance_txData (b : Byte) (s : State) : (rxAdvance b s).txData = s.txData := rfl
@[simp] theorem rxAdvance_receiveCount (b : Byte) (s : State) : (rxAdvance b s).receiveCount = s.receiveCount + 1 := rfl
@[simp] theorem rxAdvance_receiving (b : Byte) (s : State) : (rxAdvance b s).receiving = s.receiving := rfl
@[simp] theorem rxAdvance_configured (b : Byte) (s : State) : (rxAdvance b s).configured = s.configured := rfl
@[simp] theorem rxAdvance_heartbeatDead (b : Byte) (s : State) : (rxAdvance b s).heartbeatDead = s.heartbeatDead := rfl
@[simp] theorem rxAdvance_hbInterval (b : Byte) (s : State) : (rxAdvance b s).hbInterval = s.hbInterval := rfl
@[simp] theorem rxAdvance_lastMessageTime (b : Byte) (s : State) : (rxAdvance b s).lastMessageTime = s.lastMessageTime := rfl
@[simp] theorem rxAdvance_lastHeartbeatTime (b : Byte) (s : State) : (rxAdvance b s).lastHeartbeatTime = s.lastHeartbeatTime := rfl
@[simp] theorem rxAdvance_failedCount (b : Byte) (s : State) : (rxAdvance b s).failedCount = s.failedCount := rfl
@[simp] theorem rxAdvance_successCount (b : Byte) (s : State) : (rxAdvance b s).successCount = s.successCount := rfl
@[simp] theorem rxAdvance_sendCursor (b : Byte) (s : State) : (rxAdvance b s).sendCursor = s.sendCursor := rfl
@[simp] theorem rxAdvance_receiveCursor (b : Byte) (s : State) : (rxAdvance b s).receiveCursor = s.receiveCursor := rfl
@[simp] theorem rxAdvance_acc (b : Byte) (s : State) : (rxAdvance b s).acc = s.acc + b := rfl
@[simp] theorem rxAdvance_rxq (b : Byte) (s : State) : (rxAdvance b s).rxq = s.rxq := rfl
@[simp] theorem rxAdvance_txTrace (b : Byte) (s : State) : (rxAdvance b s).txTrace = s.txTrace := rfl
@[simp] theorem rxAdvance_evTrace (b : Byte) (s : State) : (rxAdvance b s).evTrace = s.evTrace := rfl
@[simp] theorem rxAdvance_now (b : Byte) (s : State) : (rxAdvance b s).now = s.now := rfl
@[simp] theorem rxAdvance_cfgHbInterval (b : Byte) (s : State) : (rxAdvance b s).cfgHbInterval = s.cfgHbInterval := rfl
@[simp] theorem rxAdvance_handlers (b : Byte) (s : State) : (rxAdvance b s).handlers = s.handlers := rfl
@[simp] theorem rxAdvance_rspTrace (b : Byte) (s : State) : (rxAdvance b s).rspTrace = s.rspTrace := rfl
@[simp] theorem rxAdvance_inputs (b : Byte) (s : State) : (rxAdvance b s).inputs = s.inputs := rfl

/-- SendStatus writes its two bytes where the link is configured and nothing else (R136). -/
theorem sendStatus_eq (c : Byte) (s : State) :
    sendStatus c s = { s with txTrace := s.txTrace ++ if s.configured then [MARKER, c] else [] } := by
  cases s
  unfold sendStatus
  split <;> simp_all [txWrite]

@[simp] theorem sendStatus_cfg (c : Byte) (s : State) : (sendStatus c s).cfg = s.cfg := by
  rw [sendStatus_eq]
@[simp] theorem sendStatus_rxLength (c : Byte) (s : State) : (sendStatus c s).rxLength = s.rxLength := by
  rw [sendStatus_eq]
@[simp] theorem sendStatus_rxFeature (c : Byte) (s : State) : (sendStatus c s).rxFeature = s.rxFeature := by
  rw [sendStatus_eq]
@[simp] theorem sendStatus_rxChecksum (c : Byte) (s : State) : (sendStatus c s).rxChecksum = s.rxChecksum := by
  rw [sendStatus_eq]
@[simp] theorem sendStatus_rxData (c : Byte) (s : State) : (sendStatus c s).rxData = s.rxData := by
  rw [sendStatus_eq]
@[simp] theorem sendStatus_txLength (c : Byte) (s : State) : (sendStatus c s).txLength = s.txLength := by
  rw [sendStatus_eq]
@[simp] theorem sendStatus_txFeature (c : Byte) (s : State) : (sendStatus c s).txFeature = s.txFeature := by
  rw [sendStatus_eq]
@[simp] theorem sendStatus_txChecksum (c : Byte) (s : State) : (sendStatus c s).txChecksum = s.txChecksum := by
  rw [sendStatus_eq]
@[simp] theorem sendStatus_txData (c : Byte) (s : State) : (sendStatus c s).txData = s.txData := by
  rw [sendStatus_eq]
@[simp] theorem sendStatus_receiveCount (c : Byte) (s : State) : (sendStatus c s).receiveCount = s.receiveCount := by
  rw [sendStatus_eq]
@[simp] theorem sendStatus_receiving (c : Byte) (s : State) : (sendStatus c s).receiving = s.receiving := by
  rw [sendStatus_eq]
@[simp] theorem sendStatus_configured (c : Byte) (s : State) : (sendStatus c s).configured = s.configured := by
  rw [sendStatus_eq]
@[simp] theorem sendStatus_heartbeatDead (c : Byte) (s : State) : (sendStatus c s).heartbeatDead = s.heartbeatDead := by
  rw [sendStatus_eq]
@[simp] theorem sendStatus_hbInterval (c : Byte) (s : State) : (sendStatus c s).hbInterval = s.hbInterval := by
  rw [sendStatus_eq]
@[simp] theorem sendStatus_lastMessageTime (c : Byte) (s : State) : (sendStatus c s).lastMessageTime = s.lastMessageTime := by
  rw [sendStatus_eq]
@[simp] theorem sendStatus_lastHeartbeatTime (c : Byte) (s : State) : (sendStatus c s).lastHeartbeatTime = s.lastHeartbeatTime := by
  rw [sendStatus_eq]
@[simp] theorem sendStatus_failedCount (c : Byte) (s : State) : (sendStatus c s).failedCount = s.failedCount := by
  rw [sendStatus_eq]
@[simp] theorem sendStatus_successCount (c : Byte) (s : State) : (sendStatus c s).successCount = s.successCount := by
  rw [sendStatus_eq]
@[simp] theorem sendStatus_sendCursor (c : Byte) (s : State) : (sendStatus c s).sendCursor = s.sendCursor := by
  rw [sendStatus_eq]
@[simp] theorem sendStatus_receiveCursor (c : Byte) (s : State) : (sendStatus c s).receiveCursor = s.receiveCursor := by
  rw [sendStatus_eq]
@[simp] theorem sendStatus_acc (c : Byte) (s : State) : (sendStatus c s).acc = s.acc := by
  rw [sendStatus_eq]
@[simp] theorem sendStatus_rxq (c : Byte) (s : State) : (sendStatus c s).rxq = s.rxq := by
  rw [sendStatus_eq]
@[simp] theorem sendStatus_txTrace (c : Byte) (s : State) : (sendStatus c s).txTrace = s.txTrace ++ if s.configured then [MARKER, c] else [] := by
  rw [sendStatus_eq]
@[simp] theorem sendStatus_evTrace (c : Byte) (s : State) : (sendStatus c s).evTrace = s.evTrace := by
  rw [sendStatus_eq]
@[simp] theorem sendStatus_now (c : Byte) (s : State) : (sendStatus c s).now = s.now := by
  rw [sendStatus_eq]
@[simp] theorem sendStatus_cfgHbInterval (c : Byte) (s : State) : (sendStatus c s).cfgHbInterval = s.cfgHbInterval := by
  rw [sendStatus_eq]
@[simp] theorem sendStatus_handlers (c : Byte) (s : State) : (sendStatus c s).handlers = s.handlers := by
  rw [sendStatus_eq]
@[simp] theorem sendStatus_rspTrace (c : Byte) (s : State) : (sendStatus c s).rspTrace = s.rspTrace := by
  rw [sendStatus_eq]
@[simp] theorem sendStatus_inputs (c : Byte) (s : State) : (sendStatus c s).inputs = s.inputs := by
  rw [sendStatus_eq]

end Sys2Proof.Machine
end

