-- ==== Sys2Proof/Laws/Ops.lean ====
section
/-! SUPPORT. Laws of the shared operations: outcomes in sequence, byte sums and the checksum law, elapsed time, EmitFrame. -/

namespace Sys2Proof.Machine

/-! ## Outcomes -/

@[simp] theorem andThen_next (s : State) (f : State → Result) : andThen (.next s) f = f s := rfl
@[simp] theorem andThen_fault (r : Fault) (f : State → Result) : andThen (.fault r) f = .fault r := rfl
@[simp] theorem andThen_refused (r : Refusal) (f : State → Result) : andThen (.refused r) f = .refused r := rfl

/-- A sequence that goes on went on in both parts. -/
theorem andThen_eq_next {o : Result} {f : State → Result} {t : State} :
    andThen o f = .next t ↔ ∃ s, o = .next s ∧ f s = .next t := by
  cases o <;> simp

theorem andThen_assoc (o : Result) (f g : State → Result) :
    andThen (andThen o f) g = andThen o fun s => andThen (f s) g := by
  cases o <;> rfl

@[simp] theorem andThen_next_right (o : Result) : andThen o .next = o := by cases o <;> rfl

@[simp] theorem orFault_some {α : Type} (v : α) (f : α → Result) : orFault (some v) f = f v := rfl
@[simp] theorem orFault_none {α : Type} (f : α → Result) : orFault none f = .fault .bufferIndex := rfl

theorem orFault_eq_next {α : Type} {o : Option α} {f : α → Result} {t : State} :
    orFault o f = .next t ↔ ∃ v, o = some v ∧ f v = .next t := by
  cases o <;> simp

theorem accept_eq (v : Nat) (s : State) : accept v s = .next (answer ⟨true, v⟩ s) := rfl
theorem reject_eq (s : State) : reject s = .next (answer ⟨false, 0⟩ s) := rfl

/-! ## Byte sums (R130 to R132) -/

theorem foldl_add_start (bs : List Byte) (a : Byte) : bs.foldl (· + ·) a = a + byteSum bs := by
  induction bs generalizing a with
  | nil => simp [byteSum]
  | cons b bs ih =>
    simp only [byteSum, List.foldl_cons] at *
    rw [ih, ih (0 + b)]
    simp [BitVec.add_assoc]

@[simp] theorem byteSum_nil : byteSum [] = 0 := rfl

@[simp] theorem byteSum_cons (b : Byte) (bs : List Byte) : byteSum (b :: bs) = b + byteSum bs := by
  rw [byteSum, List.foldl_cons, foldl_add_start]
  simp

theorem byteSum_append (as bs : List Byte) : byteSum (as ++ bs) = byteSum as + byteSum bs := by
  induction as with
  | nil => simp
  | cons a as ih => simp [ih, BitVec.add_assoc]

/-- A byte sum is the exact sum modulo 256 (R11, R130). -/
theorem byteSum_toNat (bs : List Byte) : (byteSum bs).toNat = (bs.map BitVec.toNat).sum % 256 := by
  induction bs with
  | nil => rfl
  | cons b bs ih =>
    rw [byteSum_cons, BitVec.toNat_add, ih, List.map_cons, List.sum_cons]
    omega

/-- The generator is the two's complement of the sum (R131). -/
theorem checksum_eq (l f : Byte) (p : List Byte) : checksum l f p = - byteSum (l :: f :: p) := by
  apply BitVec.eq_of_toNat_eq
  simp only [checksum, BitVec.toNat_ofNat, BitVec.toNat_neg]
  omega

theorem frameSum_eq (l f k : Byte) (p : List Byte) : frameSum l f k p = l + f + k + byteSum p := by
  simp [frameSum, BitVec.add_assoc]

/-- The checksum law: a frame built with the generator sums to 0 (R132). -/
theorem frameSum_checksum (l f : Byte) (p : List Byte) : frameSum l f (checksum l f p) p = 0 := by
  rw [frameSum_eq, checksum_eq]
  simp only [byteSum_cons]
  have : l + f + -(l + (f + byteSum p)) + byteSum p = (l + (f + byteSum p)) + -(l + (f + byteSum p)) := by ring
  rw [this]
  exact BitVec.add_right_neg _

/-! ## Elapsed time (R11, R133) -/

theorem elapsed_lt (c : Config) (a b : Nat) : elapsed c a b < 2 ^ c.clockWidth :=
  Nat.mod_lt _ (Nat.two_pow_pos _)

/-- The elapsed time is the integer difference modulo 2^W. -/
theorem elapsed_eq_emod (c : Config) (a b : Nat) :
    (elapsed c a b : Int) = ((a : Int) - (b : Int)) % (2 : Int) ^ c.clockWidth := by
  have hp : (2 : Nat) ^ c.clockWidth > 0 := Nat.two_pow_pos _
  have hm : b % 2 ^ c.clockWidth < 2 ^ c.clockWidth := Nat.mod_lt _ hp
  unfold elapsed
  generalize hn : (2 : Nat) ^ c.clockWidth = n at *
  have hn' : (2 : Int) ^ c.clockWidth = (n : Int) := by rw [← hn]; push_cast; rfl
  rw [hn', Int.natCast_mod, Nat.cast_add, Nat.cast_sub (Nat.le_of_lt hm), Int.natCast_mod]
  have : (a : Int) + ((n : Int) - (b : Int) % (n : Int)) = (a - b) + n * (1 + (b : Int) / n) := by
    have := Int.emod_add_mul_ediv (b : Int) n
    linarith
  rw [this, Int.add_mul_emod_self_left]

/-- A stamp just taken is 0 ago. -/
@[simp] theorem elapsed_self (c : Config) (a : Nat) : elapsed c a a = 0 := by
  have h := elapsed_eq_emod c a a
  simp only [sub_self, Int.zero_emod] at h
  exact_mod_cast h

/-! ## EmitFrame (R137) -/

/-- EmitFrame writes one whole frame with the generator's checksum and purges the send Message. -/
theorem emitFrame_eq {s : State} (h : s.txLength.toNat ≤ s.cfg.cap) :
    emitFrame s = .next (purgeTx (txWriteAll
      (dataBytes s.txLength s.txFeature
        (checksum s.txLength s.txFeature (s.txData.firstBytes s.txLength.toNat))
        (s.txData.firstBytes s.txLength.toNat)) s)) := by
  simp only [emitFrame, memPrefix, if_pos h, orFault_some]
  rfl

end Sys2Proof.Machine
end

