-- ==== Sys2Proof/Laws/Handler.lean ====
section
/-! SUPPORT. Everything a host command other than POLL, and so a host handler, can do: what it leaves alone, that it never
faults, and that it keeps the invariants of the send side. -/

namespace Sys2Proof.Machine

/-- What a host command other than POLL can change (R79, R190, R294): the send side, the receive cursor, the TX stream and
the responses by appending, and, as CONNECT does, the link. -/
structure CommandEffect (s t : State) : Prop where
  cfg : t.cfg = s.cfg
  rxLength : t.rxLength = s.rxLength
  rxFeature : t.rxFeature = s.rxFeature
  rxChecksum : t.rxChecksum = s.rxChecksum
  rxData : t.rxData = s.rxData
  receiveCount : t.receiveCount = s.receiveCount
  receiving : t.receiving = s.receiving
  failedCount : t.failedCount = s.failedCount
  successCount : t.successCount = s.successCount
  acc : t.acc = s.acc
  rxq : t.rxq = s.rxq
  evTrace : t.evTrace = s.evTrace
  now : t.now = s.now
  cfgHbInterval : t.cfgHbInterval = s.cfgHbInterval
  handlers : t.handlers = s.handlers
  inputs : t.inputs = s.inputs
  sent : s.txTrace <+: t.txTrace
  answered : s.rspTrace <+: t.rspTrace
  link : (t.hbInterval = s.hbInterval ∧ t.lastMessageTime = s.lastMessageTime ∧
      t.lastHeartbeatTime = s.lastHeartbeatTime ∧ t.heartbeatDead = s.heartbeatDead ∧ t.configured = s.configured) ∨
    (s.configured = false ∧ s.cfgHbInterval ≤ hbLimit s.cfg ∧ t.hbInterval = s.cfgHbInterval ∧
      t.lastMessageTime = s.now ∧ t.lastHeartbeatTime = s.now ∧ t.heartbeatDead = false ∧ t.configured = true)

theorem CommandEffect.refl (s : State) : CommandEffect s s := by
  constructor <;> simp

theorem CommandEffect.trans {s t u : State} (h : CommandEffect s t) (g : CommandEffect t u) : CommandEffect s u := by
  constructor
  case sent => exact h.sent.trans g.sent
  case answered => exact h.answered.trans g.answered
  case link =>
    rcases h.link with ⟨h1, h2, h3, h4, h5⟩ | ⟨h0, hl, h1, h2, h3, h4, h5⟩
    · rcases g.link with ⟨g1, g2, g3, g4, g5⟩ | ⟨g0, gl, g1, g2, g3, g4, g5⟩
      · exact .inl ⟨g1.trans h1, g2.trans h2, g3.trans h3, g4.trans h4, g5.trans h5⟩
      · refine .inr ⟨h5 ▸ g0, ?_, g1.trans h.cfgHbInterval, g2.trans h.now, g3.trans h.now, g4, g5⟩
        rw [← h.cfgHbInterval, ← h.cfg]; exact gl
    · rcases g.link with ⟨g1, g2, g3, g4, g5⟩ | ⟨g0, -⟩
      · exact .inr ⟨h0, hl, g1.trans h1, g2.trans h2, g3.trans h3, g4.trans h4, g5.trans h5⟩
      · rw [h5] at g0; cases g0
  case cfg => exact g.cfg.trans h.cfg
  case rxLength => exact g.rxLength.trans h.rxLength
  case rxFeature => exact g.rxFeature.trans h.rxFeature
  case rxChecksum => exact g.rxChecksum.trans h.rxChecksum
  case rxData => exact g.rxData.trans h.rxData
  case receiveCount => exact g.receiveCount.trans h.receiveCount
  case receiving => exact g.receiving.trans h.receiving
  case failedCount => exact g.failedCount.trans h.failedCount
  case successCount => exact g.successCount.trans h.successCount
  case acc => exact g.acc.trans h.acc
  case rxq => exact g.rxq.trans h.rxq
  case evTrace => exact g.evTrace.trans h.evTrace
  case now => exact g.now.trans h.now
  case cfgHbInterval => exact g.cfgHbInterval.trans h.cfgHbInterval
  case handlers => exact g.handlers.trans h.handlers
  case inputs => exact g.inputs.trans h.inputs

/-- A state that differs from `s` in what a command may change only, the link untouched. -/
theorem CommandEffect.mk' {s t : State}
    (h : t = { s.withTx t with receiveCursor := t.receiveCursor, txTrace := t.txTrace, rspTrace := t.rspTrace })
    (h1 : s.txTrace <+: t.txTrace) (h2 : s.rspTrace <+: t.rspTrace) : CommandEffect s t := by
  constructor
  case sent => exact h1
  case answered => exact h2
  all_goals (rw [h]; simp [State.withTx])

theorem accept_effect {v : Nat} {s t u : State} (e : accept v t = .next u) (h : CommandEffect s t) :
    CommandEffect s u := by
  cases e
  exact h.trans (.mk' rfl (List.prefix_refl _) (List.prefix_append _ _))

theorem reject_effect {s t u : State} (e : reject t = .next u) (h : CommandEffect s t) : CommandEffect s u := by
  cases e
  exact h.trans (.mk' rfl (List.prefix_refl _) (List.prefix_append _ _))

theorem sendMessage_effect {s t : State} (e : sendMessage s = .next t) : CommandEffect s t := by
  unfold sendMessage at e
  split at e
  · obtain ⟨u, hu, e⟩ := andThen_eq_next.1 e
    obtain ⟨p, -, hu⟩ := orFault_eq_next.1 hu
    cases hu
    exact accept_effect e (.mk' rfl (List.prefix_append _ _) (List.prefix_refl _))
  · exact accept_effect e (.refl s)

theorem answerReg_effect {r : Reg} {s t : State} (e : answerReg r s = .next t) : CommandEffect s t :=
  accept_effect e (.refl s)

/-- Whatever a host command other than POLL does is a `CommandEffect`. -/
theorem handlerCommand_effect {c : Command} {s t : State} (e : handlerCommand c s = .next t) : CommandEffect s t := by
  cases c <;> simp only [handlerCommand, execTxfeature, execTxlenauto, execTxpurge] at e
  case nop => exact accept_effect e (.refl s)
  case connect =>
    unfold execConnect at e
    split at e
    · exact reject_effect e (.refl s)
    · rename_i hc
      split at e
      · exact reject_effect e (.refl s)
      · rename_i hl
        cases e
        constructor
        case link =>
          exact .inr ⟨by simpa using hc, Nat.le_of_not_lt hl, rfl, rfl, rfl, rfl, rfl⟩
        all_goals simp
  case poll => cases e
  case txfeature f => exact accept_effect e (.mk' rfl (List.prefix_refl _) (List.prefix_refl _))
  case txbyte v =>
    unfold execTxbyte at e
    split at e
    · exact reject_effect e (.refl s)
    · obtain ⟨m, -, e⟩ := orFault_eq_next.1 e
      exact accept_effect e (.mk' rfl (List.prefix_refl _) (List.prefix_refl _))
  case txword w =>
    unfold execTxword at e
    split at e
    · exact reject_effect e (.refl s)
    · obtain ⟨m, -, e⟩ := orFault_eq_next.1 e
      exact accept_effect e (.mk' rfl (List.prefix_refl _) (List.prefix_refl _))
  case txlenauto => exact accept_effect e (.mk' rfl (List.prefix_refl _) (List.prefix_refl _))
  case txsend => exact sendMessage_effect e
  case txsendb f v =>
    unfold execTxsendb at e
    obtain ⟨m, -, e⟩ := orFault_eq_next.1 e
    have g := sendMessage_effect e
    refine CommandEffect.trans ?_ g
    exact .mk' rfl (List.prefix_refl _) (List.prefix_refl _)
  case txsendw f w =>
    unfold execTxsendw at e
    split at e
    · exact reject_effect e (.refl s)
    · obtain ⟨m, -, e⟩ := orFault_eq_next.1 e
      have g := sendMessage_effect e
      refine CommandEffect.trans ?_ g
      exact .mk' rfl (List.prefix_refl _) (List.prefix_refl _)
  case txpurge => exact accept_effect e (.mk' rfl (List.prefix_refl _) (List.prefix_refl _))
  case rxgetb =>
    unfold execRxgetb at e
    split at e
    · exact reject_effect e (.refl s)
    · obtain ⟨m, -, e⟩ := orFault_eq_next.1 e
      exact accept_effect e (.mk' rfl (List.prefix_refl _) (List.prefix_refl _))
  case rxgetw =>
    unfold execRxgetw at e
    split at e
    · exact reject_effect e (.refl s)
    · obtain ⟨m, -, e⟩ := orFault_eq_next.1 e
      exact accept_effect e (.mk' rfl (List.prefix_refl _) (List.prefix_refl _))
  case rdreg sel =>
    unfold execRdreg at e
    split at e
    · exact answerReg_effect e
    · exact reject_effect e (.refl s)
  case isalive => exact accept_effect e (.refl s)
  case undefined => exact reject_effect e (.refl s)

/-- A handler does what its commands do. -/
theorem runHandler_effect {h : List CmdWord} {s t : State} (e : runHandler h s = .next t) : CommandEffect s t := by
  induction h generalizing s with
  | nil => cases e; exact .refl _
  | cons w rest ih =>
    obtain ⟨u, hu, e⟩ := andThen_eq_next.1 e
    exact (handlerCommand_effect hu).trans (ih e)

/-- What a callback does (R292): the event, and then what the handler does. -/
theorem emit_effect {ev : Event} {s t : State} (e : emit ev s = .next t) :
    CommandEffect { s with evTrace := s.evTrace ++ [ev], handlers := s.handlers.tail } t := by
  unfold emit at e
  split at e
  · rename_i h
    cases e
    rw [h]
    simp only [List.tail_nil]
    cases s
    simp only at h
    subst h
    exact .refl _
  · rename_i h rest hh
    rw [hh]
    exact runHandler_effect e

/-! ## The send side -/

/-- The receive cursor and the send side, as a host command needs them. -/
structure CommandInv (s : State) : Prop where
  tx : TxInv s
  cursor : s.receiveCursor.toNat ≤ s.cfg.cap

theorem Memory.ok_nil (cap : Nat) : Memory.Ok cap [] := ⟨rfl, rfl⟩

theorem Memory.Ok.write {cap : Nat} {m : Memory} (h : Memory.Ok cap m) {i : Nat} (hi : i < cap) (v : Byte) :
    Memory.Ok cap (m.write i v) :=
  ⟨Memory.write_wf h.wf i v, Memory.write_within h.within hi v⟩

theorem purgeTx_inv (s : State) : TxInv (purgeTx s) :=
  ⟨Nat.zero_le _, Nat.zero_le _, rfl, Memory.ok_nil _⟩

theorem sendMessage_inv {s t : State} (h : CommandInv s) (e : sendMessage s = .next t) : CommandInv t := by
  unfold sendMessage at e
  split at e
  · rw [emitFrame_eq h.tx.length] at e
    cases e
    exact ⟨⟨Nat.zero_le _, Nat.zero_le _, rfl, Memory.ok_nil _⟩, h.cursor⟩
  · cases e
    exact ⟨⟨h.tx.length, h.tx.cursor, h.tx.checksum, h.tx.data⟩, h.cursor⟩

/-- A send completes wherever the length invariant holds (R137). -/
theorem sendMessage_next {s : State} (h : s.txLength.toNat ≤ s.cfg.cap) : ∃ t, sendMessage s = .next t := by
  unfold sendMessage
  split
  · rw [emitFrame_eq h]; exact ⟨_, rfl⟩
  · exact ⟨_, rfl⟩

theorem cursor_add_toNat {c : Config} {x : Byte} {n : Nat} (h : x.toNat + n ≤ c.cap) :
    (x + BitVec.ofNat 8 n).toNat = x.toNat + n := by
  have := c.cap_le
  rw [BitVec.toNat_add, BitVec.toNat_ofNat]
  omega

theorem appended_inv {s : State} (h : CommandInv s) {n : Nat} {m : Memory} (hn : s.sendCursor.toNat + n ≤ s.cfg.cap)
    (hm : Memory.Ok s.cfg.cap m) : CommandInv (appended n m s) := by
  have hc := cursor_add_toNat hn
  refine ⟨⟨?_, ?_, h.tx.checksum, hm⟩, h.cursor⟩
  · show (if s.txLength < s.sendCursor + BitVec.ofNat 8 n then s.sendCursor + BitVec.ofNat 8 n else s.txLength).toNat ≤ _
    split
    · rw [hc]; exact hn
    · exact h.tx.length
  · show (s.sendCursor + BitVec.ofNat 8 n).toNat ≤ _
    rw [hc]; exact hn

theorem firstBlank_le (cap : Nat) (m : Memory) : m.firstBlank cap ≤ cap := by
  have := (Memory.firstBlankFrom_spec m 0 cap).2.1
  simpa [Memory.firstBlank] using this

/-- The receive cursor and the send side stay sound under every host command. -/
theorem handlerCommand_inv {c : Command} {s t : State} (h : CommandInv s) (e : handlerCommand c s = .next t) :
    CommandInv t := by
  have hcap := s.cfg.cap_le
  have hpos := s.cfg.cap_pos
  have same : CommandInv s → ∀ r, CommandInv (answer r s) := fun h r =>
    ⟨⟨h.tx.length, h.tx.cursor, h.tx.checksum, h.tx.data⟩, h.cursor⟩
  cases c <;> simp only [handlerCommand] at e
  case nop => cases e; exact same h _
  case connect =>
    unfold execConnect at e
    split at e
    · cases e; exact same h _
    · split at e
      · cases e; exact same h _
      · cases e; exact ⟨⟨h.tx.length, h.tx.cursor, h.tx.checksum, h.tx.data⟩, h.cursor⟩
  case poll => cases e
  case txfeature f => cases e; exact ⟨⟨h.tx.length, h.tx.cursor, h.tx.checksum, h.tx.data⟩, h.cursor⟩
  case txbyte v =>
    unfold execTxbyte at e
    split at e
    · cases e; exact same h _
    · rename_i hb
      have hn : s.sendCursor.toNat + 1 ≤ s.cfg.cap := Nat.le_of_not_lt hb
      rw [memWrite1, if_pos hn] at e
      cases e
      have := appended_inv h hn (h.tx.data.write hn v)
      exact ⟨⟨this.tx.length, this.tx.cursor, this.tx.checksum, this.tx.data⟩, this.cursor⟩
  case txword w =>
    unfold execTxword at e
    split at e
    · cases e; exact same h _
    · rename_i hb
      have hn : s.sendCursor.toNat + 2 ≤ s.cfg.cap := Nat.le_of_not_lt hb
      rw [memWrite2, if_pos hn] at e
      cases e
      have := appended_inv h hn ((h.tx.data.write (i := s.sendCursor.toNat) (by omega) (hiByte w)).write
        (i := s.sendCursor.toNat + 1) (by omega) (loByte w))
      exact ⟨⟨this.tx.length, this.tx.cursor, this.tx.checksum, this.tx.data⟩, this.cursor⟩
  case txlenauto =>
    cases e
    refine ⟨⟨?_, h.tx.cursor, h.tx.checksum, h.tx.data⟩, h.cursor⟩
    have := firstBlank_le s.cfg.cap s.txData
    show (BitVec.ofNat 8 (s.txData.firstBlank s.cfg.cap)).toNat ≤ s.cfg.cap
    rw [BitVec.toNat_ofNat]
    exact le_trans (Nat.mod_le _ _) this
  case txsend => exact sendMessage_inv h e
  case txsendb f v =>
    unfold execTxsendb at e
    rw [memWrite1, if_pos (by omega)] at e
    refine sendMessage_inv ?_ e
    exact ⟨⟨by simpa using hpos, by simpa using hpos, h.tx.checksum, h.tx.data.write (by omega) v⟩, h.cursor⟩
  case txsendw f w =>
    unfold execTxsendw at e
    split at e
    · cases e; exact same h _
    · rename_i hb
      rw [memWrite2, if_pos (by omega)] at e
      have h2 : 2 ≤ s.cfg.cap := Nat.le_of_not_lt hb
      refine sendMessage_inv ?_ e
      exact ⟨⟨by simpa using h2, by simpa using h2, h.tx.checksum,
        (h.tx.data.write (i := 0) (by omega) _).write (i := 0 + 1) (by omega) _⟩, h.cursor⟩
  case txpurge => cases e; exact ⟨⟨Nat.zero_le _, Nat.zero_le _, rfl, Memory.ok_nil _⟩, h.cursor⟩
  case rxgetb =>
    unfold execRxgetb at e
    split at e
    · cases e; exact same h _
    · rename_i hb
      have hn : s.receiveCursor.toNat + 1 ≤ s.cfg.cap := Nat.le_of_not_lt hb
      rw [memRead1, if_pos hn] at e
      cases e
      refine ⟨⟨h.tx.length, h.tx.cursor, h.tx.checksum, h.tx.data⟩, ?_⟩
      show (s.receiveCursor + BitVec.ofNat 8 1).toNat ≤ _
      rw [cursor_add_toNat hn]; exact hn
  case rxgetw =>
    unfold execRxgetw at e
    split at e
    · cases e; exact same h _
    · rename_i hb
      have hn : s.receiveCursor.toNat + 2 ≤ s.cfg.cap := Nat.le_of_not_lt hb
      rw [memRead2, if_pos hn] at e
      cases e
      refine ⟨⟨h.tx.length, h.tx.cursor, h.tx.checksum, h.tx.data⟩, ?_⟩
      show (s.receiveCursor + BitVec.ofNat 8 2).toNat ≤ _
      rw [cursor_add_toNat hn]; exact hn
  case rdreg sel =>
    unfold execRdreg at e
    split at e
    · cases e; exact same h _
    · cases e; exact same h _
  case isalive => cases e; exact same h _
  case undefined => cases e; exact same h _

/-- Every host command but POLL completes (R68). -/
theorem handlerCommand_next {c : Command} {s : State} (h : CommandInv s) (hc : c ≠ .poll) :
    ∃ t, handlerCommand c s = .next t := by
  have hpos := s.cfg.cap_pos
  cases c <;> simp only [handlerCommand]
  case poll => exact absurd rfl hc
  case connect => unfold execConnect; split <;> [exact ⟨_, rfl⟩; (split <;> exact ⟨_, rfl⟩)]
  case txbyte v =>
    unfold execTxbyte
    split
    · exact ⟨_, rfl⟩
    · rename_i hb
      rw [memWrite1, if_pos (Nat.le_of_not_lt hb)]; exact ⟨_, rfl⟩
  case txword w =>
    unfold execTxword
    split
    · exact ⟨_, rfl⟩
    · rename_i hb
      rw [memWrite2, if_pos (Nat.le_of_not_lt hb)]; exact ⟨_, rfl⟩
  case txsend => exact sendMessage_next h.tx.length
  case txsendb f v =>
    unfold execTxsendb
    rw [memWrite1, if_pos (by omega)]
    exact sendMessage_next (s := { s with txFeature := f, txData := _, txLength := 1, sendCursor := 1 }) (by simpa using hpos)
  case txsendw f w =>
    unfold execTxsendw
    split
    · exact ⟨_, rfl⟩
    · rename_i hb
      rw [memWrite2, if_pos (by omega)]
      exact sendMessage_next (s := { s with txFeature := f, txData := _, txLength := 2, sendCursor := 2 })
        (by simpa using Nat.le_of_not_lt hb)
  case rxgetb =>
    unfold execRxgetb
    split
    · exact ⟨_, rfl⟩
    · rename_i hb
      rw [memRead1, if_pos (Nat.le_of_not_lt hb)]; exact ⟨_, rfl⟩
  case rxgetw =>
    unfold execRxgetw
    split
    · exact ⟨_, rfl⟩
    · rename_i hb
      rw [memRead2, if_pos (Nat.le_of_not_lt hb)]; exact ⟨_, rfl⟩
  case rdreg sel => unfold execRdreg; split <;> exact ⟨_, rfl⟩
  all_goals exact ⟨_, rfl⟩

theorem runHandler_inv {h : List CmdWord} {s t : State} (hs : CommandInv s) (e : runHandler h s = .next t) :
    CommandInv t := by
  induction h generalizing s with
  | nil => cases e; exact hs
  | cons w rest ih =>
    obtain ⟨u, hu, e⟩ := andThen_eq_next.1 e
    exact ih (handlerCommand_inv hs hu) e

/-- A handler that keeps the contract completes. -/
theorem runHandler_next {h : List CmdWord} {s : State} (hs : CommandInv s) (hl : handlerLegal h) :
    ∃ t, runHandler h s = .next t := by
  induction h generalizing s with
  | nil => exact ⟨s, rfl⟩
  | cons w rest ih =>
    obtain ⟨u, hu⟩ := handlerCommand_next hs (hl w (by simp))
    obtain ⟨t, ht⟩ := ih (handlerCommand_inv hs hu) fun v hv => hl v (by simp [hv])
    exact ⟨t, by simp [runHandler, hu, ht]⟩

theorem emit_inv {ev : Event} {s t : State} (hs : CommandInv s) (e : emit ev s = .next t) : CommandInv t := by
  have hs' : ∀ hd, CommandInv { s with evTrace := s.evTrace ++ [ev], handlers := hd } := fun hd =>
    ⟨⟨hs.tx.length, hs.tx.cursor, hs.tx.checksum, hs.tx.data⟩, hs.cursor⟩
  unfold emit at e
  split at e
  · cases e
    exact hs' s.handlers
  · exact runHandler_inv (hs' _) e

theorem emit_next {ev : Event} {s : State} (hs : CommandInv s) (hl : handlersLegal s) : ∃ t, emit ev s = .next t := by
  unfold emit
  split
  · exact ⟨_, rfl⟩
  · rename_i h rest hh
    exact runHandler_next (s := { s with evTrace := _, handlers := _ })
      ⟨⟨hs.tx.length, hs.tx.cursor, hs.tx.checksum, hs.tx.data⟩, hs.cursor⟩ (hl h (by simp [hh]))

/-! ## POLL in a handler -/

/-- A handler that holds a POLL is refused, whatever stands before it (R248, U3). -/
theorem runHandler_refused {h : List CmdWord} {s : State} (hs : CommandInv s) (hp : ∃ w ∈ h, commandOf w = .poll) :
    runHandler h s = .refused .pollInHandler := by
  induction h generalizing s with
  | nil => simp at hp
  | cons w rest ih =>
    by_cases hw : commandOf w = .poll
    · simp [runHandler, hw, handlerCommand]
    · obtain ⟨u, hu⟩ := handlerCommand_next hs hw
      have hr := ih (handlerCommand_inv hs hu) (by simpa [hw] using hp)
      simp [runHandler, hu, hr]

/-- `emit` where the host has no handler: the event, and nothing else (R49). -/
theorem emit_nil {ev : Event} {s : State} (hh : s.handlers = []) :
    emit ev s = .next { s with evTrace := s.evTrace ++ [ev] } := by simp [emit, hh]

/-- `emit` where the host has a handler ready (R49). -/
theorem emit_cons {ev : Event} {s : State} {h : List CmdWord} {rest : List (List CmdWord)} (hh : s.handlers = h :: rest) :
    emit ev s = runHandler h { s with evTrace := s.evTrace ++ [ev], handlers := rest } := by simp [emit, hh]

/-- The row of a register answers that register (R246). -/
theorem handlerCommand_rdreg_instr (r : Reg) (s : State) : exec r.instr s = answerReg r s := by cases r <;> rfl

end Sys2Proof.Machine
end

