-- ==== Sys2Proof/Laws/Receive.lean ====
section
/-! SUPPORT. Everything the receive state machine can do with a byte, said once: what it leaves alone, that it refreshes
the liveness state, that it keeps the invariants, and that it completes. -/

namespace Sys2Proof.Machine

/-- What consuming bytes can change outside the two Messages, the position and the counters. -/
structure StreamEffect (s t : State) : Prop where
  cfg : t.cfg = s.cfg
  rxq : t.rxq = s.rxq
  now : t.now = s.now
  cfgHbInterval : t.cfgHbInterval = s.cfgHbInterval
  inputs : t.inputs = s.inputs
  handlers : t.handlers <:+ s.handlers
  sent : s.txTrace <+: t.txTrace
  events : s.evTrace <+: t.evTrace
  answered : s.rspTrace <+: t.rspTrace
  clock : (t.lastMessageTime = s.lastMessageTime ∧ t.heartbeatDead = s.heartbeatDead) ∨
    (t.lastMessageTime = s.now ∧ t.heartbeatDead = false)
  link : (t.hbInterval = s.hbInterval ∧ t.lastHeartbeatTime = s.lastHeartbeatTime ∧ t.configured = s.configured) ∨
    (s.configured = false ∧ s.cfgHbInterval ≤ hbLimit s.cfg ∧ t.hbInterval = s.cfgHbInterval ∧
      t.lastHeartbeatTime = s.now ∧ t.configured = true)

theorem StreamEffect.refl (s : State) : StreamEffect s s := by
  constructor <;> simp

theorem StreamEffect.trans {s t u : State} (h : StreamEffect s t) (g : StreamEffect t u) : StreamEffect s u where
  cfg := g.cfg.trans h.cfg
  rxq := g.rxq.trans h.rxq
  now := g.now.trans h.now
  cfgHbInterval := g.cfgHbInterval.trans h.cfgHbInterval
  inputs := g.inputs.trans h.inputs
  handlers := g.handlers.trans h.handlers
  sent := h.sent.trans g.sent
  events := h.events.trans g.events
  answered := h.answered.trans g.answered
  clock := by
    rcases g.clock with ⟨g1, g2⟩ | ⟨g1, g2⟩
    · rcases h.clock with ⟨h1, h2⟩ | ⟨h1, h2⟩
      · exact .inl ⟨g1.trans h1, g2.trans h2⟩
      · exact .inr ⟨g1.trans h1, g2.trans h2⟩
    · exact .inr ⟨g1.trans h.now, g2⟩
  link := by
    rcases h.link with ⟨h1, h2, h3⟩ | ⟨h0, hl, h1, h2, h3⟩
    · rcases g.link with ⟨g1, g2, g3⟩ | ⟨g0, gl, g1, g2, g3⟩
      · exact .inl ⟨g1.trans h1, g2.trans h2, g3.trans h3⟩
      · refine .inr ⟨h3 ▸ g0, ?_, g1.trans h.cfgHbInterval, g2.trans h.now, g3⟩
        rw [← h.cfgHbInterval, ← h.cfg]; exact gl
    · rcases g.link with ⟨g1, g2, g3⟩ | ⟨g0, -⟩
      · exact .inr ⟨h0, hl, g1.trans h1, g2.trans h2, g3.trans h3⟩
      · rw [h3] at g0; cases g0

theorem CommandEffect.stream {s t : State} (h : CommandEffect s t) : StreamEffect s t where
  cfg := h.cfg
  rxq := h.rxq
  now := h.now
  cfgHbInterval := h.cfgHbInterval
  inputs := h.inputs
  handlers := h.handlers ▸ List.suffix_refl _
  sent := h.sent
  events := h.evTrace ▸ List.prefix_refl _
  answered := h.answered
  clock := by
    rcases h.link with ⟨-, h2, -, h4, -⟩ | ⟨-, -, -, h2, -, h4, -⟩
    · exact .inl ⟨h2, h4⟩
    · exact .inr ⟨h2, h4⟩
  link := by
    rcases h.link with ⟨h1, -, h3, -, h5⟩ | ⟨h0, hl, h1, -, h3, -, h5⟩
    · exact .inl ⟨h1, h3, h5⟩
    · exact .inr ⟨h0, hl, h1, h3, h5⟩

/-- A change of the receive side, the counters and the TX stream only. -/
theorem StreamEffect.of_rx {s t : State}
    (h : t = { s.withRx t with failedCount := t.failedCount, successCount := t.successCount, txTrace := t.txTrace })
    (h1 : s.txTrace <+: t.txTrace) : StreamEffect s t := by
  constructor
  case sent => exact h1
  all_goals (rw [h]; simp [State.withRx])

theorem emit_stream {ev : Event} {s t : State} (e : emit ev s = .next t) : StreamEffect s t := by
  have h := (emit_effect e).stream
  refine StreamEffect.trans ?_ h
  constructor <;> simp [List.tail_suffix]

theorem sendStatus_stream (c : Byte) (s : State) : StreamEffect s (sendStatus c s) := by
  rw [sendStatus_eq]
  exact .of_rx rfl (List.prefix_append _ _)

theorem purgeRx_stream (s : State) : StreamEffect s (purgeRx s) := .of_rx rfl (List.prefix_refl _)

theorem rejectFrame_stream (s : State) : StreamEffect s (rejectFrame s) := by
  have h := sendStatus_stream s.cfg.stNack s
  refine h.trans ?_
  exact .of_rx rfl (List.prefix_refl _)

theorem armStatus_stream {b : Byte} {s t : State} (e : armStatus b s = .next t) : StreamEffect s t := by
  unfold armStatus at e
  obtain ⟨u, hu, e⟩ := andThen_eq_next.1 e
  cases e
  refine StreamEffect.trans ?_ ((emit_stream hu).trans (purgeRx_stream u))
  split
  · exact sendStatus_stream _ s
  · exact .refl s

theorem complete_stream {s t : State} (e : complete s = .next t) : StreamEffect s t := by
  unfold complete at e
  split at e
  · obtain ⟨p, -, e⟩ := orFault_eq_next.1 e
    obtain ⟨u, hu, e⟩ := andThen_eq_next.1 e
    cases e
    refine (sendStatus_stream s.cfg.stAck s).trans ((emit_stream hu).trans ?_)
    exact .of_rx rfl (List.prefix_refl _)
  · cases e
    exact rejectFrame_stream s

theorem rxTail_stream {b : Byte} {s t : State} (e : rxTail b s = .next t) : StreamEffect s t := by
  have h : StreamEffect s (rxAdvance b s) := .of_rx rfl (List.prefix_refl _)
  unfold rxTail at e
  simp only at e
  split at e
  · exact h.trans (complete_stream e)
  · cases e; exact h

theorem storeHeader_stream (a : RxArm) (b : Byte) (s : State) : StreamEffect s (storeHeader a b s) := by
  cases a
  case length => exact .of_rx rfl (List.prefix_refl _)
  case feature => exact .of_rx rfl (List.prefix_refl _)
  case checksum => exact .of_rx rfl (List.prefix_refl _)
  all_goals exact .refl s

/-- After the prologue a byte does a `StreamEffect`. -/
theorem rxByte_stream_prologue {b : Byte} {s t : State} (e : rxByte b s = .next t) :
    StreamEffect (rxPrologue s) t := by
  unfold rxByte at e
  simp only at e
  split at e
  · cases e; exact .of_rx rfl (List.prefix_refl _)
  · cases e; exact .of_rx rfl (List.prefix_refl _)
  · exact armStatus_stream e
  · cases e; exact rejectFrame_stream _
  · exact (storeHeader_stream _ b _).trans (rxTail_stream e)
  · exact (storeHeader_stream _ b _).trans (rxTail_stream e)
  · exact (storeHeader_stream _ b _).trans (rxTail_stream e)
  · obtain ⟨m, -, e⟩ := orFault_eq_next.1 e
    have h := rxTail_stream e
    refine StreamEffect.trans ?_ h
    exact .of_rx rfl (List.prefix_refl _)

theorem rxPrologue_stream (s : State) : StreamEffect s (rxPrologue s) := by
  constructor <;> simp

/-- What consuming one byte can change. -/
theorem rxByte_stream {b : Byte} {s t : State} (e : rxByte b s = .next t) : StreamEffect s t :=
  (rxPrologue_stream s).trans (rxByte_stream_prologue e)

/-- What consuming bytes can change. -/
theorem feed_stream {bs : List Byte} {s t : State} (e : feed bs s = .next t) : StreamEffect s t := by
  induction bs generalizing s with
  | nil => cases e; exact .refl _
  | cons b bs ih =>
    obtain ⟨u, hu, e⟩ := andThen_eq_next.1 e
    exact (rxByte_stream hu).trans (ih e)

/-- Consuming two runs of bytes is consuming them joined (R75). -/
theorem feed_append (as bs : List Byte) (s : State) : feed (as ++ bs) s = andThen (feed as s) (feed bs) := by
  induction as generalizing s with
  | nil => rfl
  | cons a as ih =>
    show andThen (rxByte a s) (feed (as ++ bs)) = andThen (andThen (rxByte a s) (feed as)) (feed bs)
    rw [andThen_assoc]
    congr 1
    funext u
    exact ih u

theorem feed_singleton (b : Byte) (s : State) : feed [b] s = rxByte b s := by
  simp [feed]

/-! ## The receive invariant -/

theorem RxInv.purged (s : State) : RxInv (purgeRx s) where
  length := Nat.zero_le _
  cursor := Nat.zero_le _
  data := Memory.ok_nil _
  idle := fun _ => rfl
  position := by simp
  beforeLength := fun _ => rfl
  beforeFeature := fun _ => rfl
  beforeChecksum := fun _ => rfl
  blank := fun _ _ => rfl
  sum := by simp [frameSum]

/-- The receive invariant reads the receive side and the configuration only. -/
theorem RxInv.congr {s t : State} (h : RxInv s) (hc : t.cfg = s.cfg) (ht : t = t.withRx s) : RxInv t := by
  constructor
  case length => rw [hc, ht]; exact h.length
  case cursor => rw [hc, ht]; exact h.cursor
  case data => rw [hc, ht]; exact h.data
  all_goals rw [ht]
  case idle => exact h.idle
  case position => exact h.position
  case beforeLength => exact h.beforeLength
  case beforeFeature => exact h.beforeFeature
  case beforeChecksum => exact h.beforeChecksum
  case blank => exact h.blank
  case sum => exact h.sum

theorem TxInv.congr {s t : State} (h : TxInv s) (hc : t.cfg = s.cfg) (ht : t = t.withTx s) : TxInv t := by
  constructor
  case length => rw [hc, ht]; exact h.length
  case cursor => rw [hc, ht]; exact h.cursor
  case checksum => rw [ht]; exact h.checksum
  case data => rw [hc, ht]; exact h.data

/-- What the receive side needs for a byte. -/
structure ByteInv (s : State) : Prop where
  tx : TxInv s
  rx : RxInv s

theorem ByteInv.command {s : State} (h : ByteInv s) : CommandInv s := ⟨h.tx, h.rx.cursor⟩

theorem ByteInv.of_purged {s : State} (h : TxInv s) : ByteInv (purgeRx s) :=
  ⟨h.congr rfl rfl, .purged s⟩

theorem byteInv_count {s : State} (h : ByteInv s) : ByteInv (countFailed s) ∧ ByteInv (countSuccess s) :=
  ⟨⟨h.tx.congr rfl rfl, h.rx.congr rfl rfl⟩, ⟨h.tx.congr rfl rfl, h.rx.congr rfl rfl⟩⟩

theorem sendStatus_tx {c : Byte} {s : State} (h : TxInv s) : TxInv (sendStatus c s) := by
  rw [sendStatus_eq]; exact h.congr rfl rfl

theorem rejectFrame_inv {s : State} (h : TxInv s) : ByteInv (rejectFrame s) :=
  (byteInv_count (.of_purged (sendStatus_tx h))).1

theorem commandInv_sendStatus {c : Byte} {s : State} (h : CommandInv s) : CommandInv (sendStatus c s) :=
  ⟨sendStatus_tx h.tx, by simpa using h.cursor⟩

theorem armStatus_inv {b : Byte} {s t : State} (h : CommandInv s) (e : armStatus b s = .next t) : ByteInv t := by
  unfold armStatus at e
  obtain ⟨u, hu, e⟩ := andThen_eq_next.1 e
  cases e
  refine .of_purged (emit_inv ?_ hu).tx
  split
  · exact commandInv_sendStatus h
  · exact h

theorem complete_inv {s t : State} (h : CommandInv s) (e : complete s = .next t) : ByteInv t := by
  unfold complete at e
  split at e
  · obtain ⟨p, -, e⟩ := orFault_eq_next.1 e
    obtain ⟨u, hu, e⟩ := andThen_eq_next.1 e
    cases e
    exact (byteInv_count (.of_purged (emit_inv (commandInv_sendStatus h) hu).tx)).2
  · cases e
    exact rejectFrame_inv h.tx

theorem rxTail_inv {b : Byte} {s t : State} (e : rxTail b s = .next t) (hc : CommandInv (rxAdvance b s))
    (hr : frameComplete (rxAdvance b s) = false → RxInv (rxAdvance b s)) : ByteInv t := by
  unfold rxTail at e
  simp only at e
  split at e
  · exact complete_inv hc e
  · rename_i hf
    cases e
    exact ⟨hc.tx, hr (by simpa using hf)⟩

/-! ### Which arm runs -/

theorem rxArm_idle {s : State} (h : s.receiving = false) (b : Byte) :
    rxArm b s = if b = MARKER then .start else .violation := by
  simp [rxArm, h]

theorem frameKind_status {c : Config} {b : Byte} : frameKind c b = .status ↔ STATUS_MIN ≤ b := by
  unfold frameKind
  split
  · simp_all
  · split <;> simp_all

theorem frameKind_tooLong {c : Config} {b : Byte} : frameKind c b = .tooLong ↔ ¬ STATUS_MIN ≤ b ∧ c.cap < b.toNat := by
  unfold frameKind
  split
  · simp_all
  · split <;> simp_all

theorem frameKind_data {c : Config} {b : Byte} : frameKind c b = .data ↔ b.toNat ≤ c.cap := by
  constructor
  · unfold frameKind
    split
    · simp
    · split
      · simp
      · intro _; omega
  · intro h
    unfold frameKind
    rw [if_neg (c.lt_status_of_le_cap h), if_neg (by omega)]

theorem rxArm_length {b : Byte} {s : State} (h : rxArm b s = .length) :
    s.receiving = true ∧ s.receiveCount = 0 ∧ b.toNat ≤ s.cfg.cap := by
  unfold rxArm at h
  split at h
  · split at h <;> cases h
  · rename_i hr
    split at h
    · rename_i hc
      split at h <;> first | exact ⟨by simpa using hr, hc, frameKind_data.1 ‹_›⟩ | cases h
    · split at h <;> first | cases h | (split at h <;> cases h)

theorem rxArm_feature {b : Byte} {s : State} (h : rxArm b s = .feature) :
    s.receiving = true ∧ s.receiveCount = 1 := by
  unfold rxArm at h
  split at h
  · split at h <;> cases h
  · rename_i hr
    split at h
    · split at h <;> cases h
    · split at h
      · rename_i h1; exact ⟨by simpa using hr, h1⟩
      · split at h <;> cases h

theorem rxArm_checksum {b : Byte} {s : State} (h : rxArm b s = .checksum) :
    s.receiving = true ∧ s.receiveCount = 2 := by
  unfold rxArm at h
  split at h
  · split at h <;> cases h
  · rename_i hr
    split at h
    · split at h <;> cases h
    · split at h
      · cases h
      · split at h
        · rename_i h2; exact ⟨by simpa using hr, h2⟩
        · cases h

theorem rxArm_payload {b : Byte} {s : State} (h : rxArm b s = .payload) :
    s.receiving = true ∧ HEADER ≤ s.receiveCount.toNat := by
  unfold rxArm at h
  split at h
  · split at h <;> cases h
  · rename_i hr
    split at h
    · split at h <;> cases h
    · split at h
      · cases h
      · split at h
        · cases h
        · rename_i h0 h1 h2
          refine ⟨by simpa using hr, ?_⟩
          have n0 : s.receiveCount.toNat ≠ 0 := fun e => h0 (BitVec.eq_of_toNat_eq e)
          have n1 : s.receiveCount.toNat ≠ 1 := fun e => h1 (BitVec.eq_of_toNat_eq e)
          have n2 : s.receiveCount.toNat ≠ 2 := fun e => h2 (BitVec.eq_of_toNat_eq e)
          show 3 ≤ _
          omega

/-! ### The arms that store -/

theorem RxInv.count_le {s : State} (h : RxInv s) : s.receiveCount.toNat ≤ s.cfg.cap + 2 := by
  have h1 := h.length
  have h2 : s.receiveCount.toNat < s.rxLength.toNat + 3 := h.position
  omega

theorem count_succ {c : Config} {n : Byte} (h : n.toNat ≤ c.cap + 2) : (n + 1).toNat = n.toNat + 1 := by
  have := c.cap_le
  rw [BitVec.toNat_add]
  show (n.toNat + 1) % 256 = _
  omega

theorem RxInv.acc_zero {s : State} (h : RxInv s) (h0 : s.receiveCount = 0) : s.acc = 0 := by
  have hz : s.receiveCount.toNat = 0 := by rw [h0]; rfl
  rw [h.sum, h.beforeLength (by omega), h.beforeFeature (by omega), h.beforeChecksum (by omega), hz]
  simp [frameSum]

theorem lengthArm_rx {b : Byte} {s : State} (h : RxInv s) (hr : s.receiving = true) (h0 : s.receiveCount = 0)
    (hb : b.toNat ≤ s.cfg.cap) : RxInv (rxAdvance b (storeHeader .length b s)) := by
  have hz : s.receiveCount.toNat = 0 := by rw [h0]; rfl
  have h1 : ((0 : Byte) + 1).toNat = 1 := rfl
  constructor
  case length => exact hb
  case cursor => exact Nat.zero_le _
  case data => exact h.data
  case idle => intro hi; simp [storeHeader, hr] at hi
  case position => simp only [rxAdvance, storeHeader, h0, h1]; show 1 < _ + 3; omega
  case beforeLength => intro hi; simp only [rxAdvance, storeHeader, h0, h1] at hi; omega
  case beforeFeature => exact fun _ => h.beforeFeature (by omega)
  case beforeChecksum => exact fun _ => h.beforeChecksum (by omega)
  case blank => exact fun i _ => h.blank i (by omega)
  case sum =>
    simp only [rxAdvance, storeHeader, h0, h.acc_zero h0]
    rw [h.beforeFeature (by omega), h.beforeChecksum (by omega)]
    simp [frameSum]

theorem featureArm_rx {b : Byte} {s : State} (h : RxInv s) (hr : s.receiving = true) (h1 : s.receiveCount = 1) :
    RxInv (rxAdvance b (storeHeader .feature b s)) := by
  have hz : s.receiveCount.toNat = 1 := by rw [h1]; rfl
  have h2 : ((1 : Byte) + 1).toNat = 2 := rfl
  constructor
  case length => exact h.length
  case cursor => exact h.cursor
  case data => exact h.data
  case idle => intro hi; simp [storeHeader, hr] at hi
  case position => simp only [rxAdvance, storeHeader, h1, h2]; show 2 < _ + 3; omega
  case beforeLength => intro hi; simp only [rxAdvance, storeHeader, h1, h2] at hi; omega
  case beforeFeature => intro hi; simp only [rxAdvance, storeHeader, h1, h2] at hi; omega
  case beforeChecksum => exact fun _ => h.beforeChecksum (by omega)
  case blank => exact fun i _ => h.blank i (by rw [hz]; show 1 ≤ i + 3; omega)
  case sum =>
    simp only [rxAdvance, storeHeader, h.sum, h1, h2]
    rw [h.beforeFeature (by omega), h.beforeChecksum (by omega)]
    simp [frameSum, HEADER]

theorem checksumArm_rx {b : Byte} {s : State} (h : RxInv s) (hr : s.receiving = true) (h2 : s.receiveCount = 2)
    (hf : frameComplete (rxAdvance b (storeHeader .checksum b s)) = false) :
    RxInv (rxAdvance b (storeHeader .checksum b s)) := by
  have hz : s.receiveCount.toNat = 2 := by rw [h2]; rfl
  have h3 : ((2 : Byte) + 1).toNat = 3 := rfl
  simp only [frameComplete, rxAdvance, storeHeader, h2, h3, decide_eq_false_iff_not, HEADER] at hf
  constructor
  case length => exact h.length
  case cursor => exact h.cursor
  case data => exact h.data
  case idle => intro hi; simp [storeHeader, hr] at hi
  case position => simp only [rxAdvance, storeHeader, h2, h3]; show 3 < _ + 3; omega
  case beforeLength => intro hi; simp only [rxAdvance, storeHeader, h2, h3] at hi; omega
  case beforeFeature => intro hi; simp only [rxAdvance, storeHeader, h2, h3] at hi; omega
  case beforeChecksum => intro hi; simp only [rxAdvance, storeHeader, h2, h3] at hi; omega
  case blank => exact fun i _ => h.blank i (by rw [hz]; show 2 ≤ i + 3; omega)
  case sum =>
    simp only [rxAdvance, storeHeader, h.sum, h2, h3]
    rw [h.beforeChecksum (by omega)]
    simp [frameSum, BitVec.add_assoc, HEADER]

theorem payloadArm_rx {b : Byte} {s : State} (h : RxInv s) (hr : s.receiving = true)
    (h3 : HEADER ≤ s.receiveCount.toNat)
    (hf : frameComplete (rxAdvance b { s with rxData := s.rxData.write (s.receiveCount.toNat - HEADER) b }) = false) :
    RxInv (rxAdvance b { s with rxData := s.rxData.write (s.receiveCount.toNat - HEADER) b }) := by
  have hp : s.receiveCount.toNat < s.rxLength.toNat + 3 := h.position
  have hl := h.length
  have h3' : 3 ≤ s.receiveCount.toNat := h3
  have hs := count_succ h.count_le
  simp only [frameComplete, rxAdvance, decide_eq_false_iff_not, HEADER, hs] at hf
  constructor
  case length => exact h.length
  case cursor => exact h.cursor
  case data => exact h.data.write (by show s.receiveCount.toNat - 3 < s.cfg.cap; omega) b
  case idle => intro hi; simp [hr] at hi
  case position => simp only [rxAdvance, hs]; show _ < _ + 3; omega
  case beforeLength => intro hi; simp only [rxAdvance, hs] at hi; omega
  case beforeFeature => intro hi; simp only [rxAdvance, hs] at hi; omega
  case beforeChecksum => intro hi; simp only [rxAdvance, hs] at hi; omega
  case blank =>
    intro i hi
    simp only [rxAdvance, hs, HEADER] at hi
    simp only [rxAdvance, HEADER]
    rw [Memory.read_write h.data.wf, if_neg (by omega)]
    exact h.blank i (by show _ ≤ i + 3; omega)
  case sum =>
    simp only [rxAdvance, HEADER, hs]
    have hn : s.receiveCount.toNat + 1 - 3 = (s.receiveCount.toNat - 3) + 1 := by omega
    rw [hn, Memory.firstBytes_succ, Memory.firstBytes_write h.data.wf (Nat.le_refl _), Memory.read_write h.data.wf,
      if_pos rfl, h.sum]
    simp only [frameSum_eq, byteSum_append, byteSum_cons, byteSum_nil, HEADER, BitVec.add_assoc]
    congr 4
    simp

/-- Every byte keeps the invariants of the send side and the receive side. -/
theorem rxByte_inv {b : Byte} {s t : State} (h : ByteInv s) (e : rxByte b s = .next t) : ByteInv t := by
  have hp : ByteInv (rxPrologue s) := ⟨h.tx.congr rfl rfl, h.rx.congr rfl rfl⟩
  generalize hs : rxPrologue s = u at hp
  unfold rxByte at e
  simp only [hs] at e
  split at e
  · cases e
    have := RxInv.purged u
    refine ⟨hp.tx.congr rfl rfl, ?_⟩
    constructor
    case idle => exact fun _ => rfl
    case length => exact this.length
    case cursor => exact this.cursor
    case data => exact this.data
    case position => exact this.position
    case beforeLength => exact this.beforeLength
    case beforeFeature => exact this.beforeFeature
    case beforeChecksum => exact this.beforeChecksum
    case blank => exact this.blank
    case sum => exact this.sum
  · cases e; exact (byteInv_count (.of_purged hp.tx)).1
  · exact armStatus_inv hp.command e
  · cases e; exact rejectFrame_inv hp.tx
  · rename_i ha
    obtain ⟨hr, h0, hb⟩ := rxArm_length ha
    exact rxTail_inv e ⟨hp.tx.congr rfl rfl, Nat.zero_le _⟩ (fun _ => lengthArm_rx hp.rx hr h0 hb)
  · rename_i ha
    obtain ⟨hr, h1⟩ := rxArm_feature ha
    exact rxTail_inv e ⟨hp.tx.congr rfl rfl, hp.rx.cursor⟩ (fun _ => featureArm_rx hp.rx hr h1)
  · rename_i ha
    obtain ⟨hr, h2⟩ := rxArm_checksum ha
    exact rxTail_inv e ⟨hp.tx.congr rfl rfl, hp.rx.cursor⟩ (checksumArm_rx hp.rx hr h2)
  · rename_i ha
    obtain ⟨hr, h3⟩ := rxArm_payload ha
    obtain ⟨m, hm, e⟩ := orFault_eq_next.1 e
    unfold memWrite1 at hm
    split at hm
    · cases hm
      exact rxTail_inv e ⟨hp.tx.congr rfl rfl, hp.rx.cursor⟩ (payloadArm_rx hp.rx hr h3)
    · cases hm

/-! ## Completion -/

theorem handlersLegal_of_suffix {s t : State} (h : t.handlers <:+ s.handlers) (hl : handlersLegal s) :
    handlersLegal t := fun x hx => hl x (h.subset hx)

theorem complete_next {s : State} (h : CommandInv s) (hlen : s.rxLength.toNat ≤ s.cfg.cap) (hl : handlersLegal s) :
    ∃ t, complete s = .next t := by
  unfold complete
  split
  · unfold armValid memPrefix
    rw [if_pos hlen, orFault_some]
    obtain ⟨u, hu⟩ := emit_next (ev := .onMessage s.rxLength s.rxFeature s.rxChecksum
      (s.rxData.firstBytes s.rxLength.toNat)) (commandInv_sendStatus (c := s.cfg.stAck) h)
      (by intro x hx; exact hl x (by simpa using hx))
    exact ⟨_, by rw [hu]; rfl⟩
  · exact ⟨_, rfl⟩

theorem rxTail_next {b : Byte} {s : State} (h : CommandInv s) (hlen : s.rxLength.toNat ≤ s.cfg.cap)
    (hl : handlersLegal s) : ∃ t, rxTail b s = .next t := by
  unfold rxTail
  simp only
  split
  · exact complete_next ⟨h.tx.congr rfl rfl, h.cursor⟩ hlen hl
  · exact ⟨_, rfl⟩

/-- Every byte is consumed: no fault, and no refusal but for a handler that breaks the contract (R68, R150). -/
theorem rxByte_next {b : Byte} {s : State} (h : ByteInv s) (hl : handlersLegal s) : ∃ t, rxByte b s = .next t := by
  have hp : ByteInv (rxPrologue s) := ⟨h.tx.congr rfl rfl, h.rx.congr rfl rfl⟩
  have hl' : handlersLegal (rxPrologue s) := hl
  generalize hs : rxPrologue s = u at hp hl'
  unfold rxByte
  simp only [hs]
  split
  · exact ⟨_, rfl⟩
  · exact ⟨_, rfl⟩
  · unfold armStatus
    simp only
    have : ∃ v, emit (.onStatus b) (if b = ST_HELO then sendStatus u.cfg.stAck u else u) = .next v := by
      refine emit_next ?_ ?_
      · split
        · exact commandInv_sendStatus hp.command
        · exact hp.command
      · split
        · intro x hx; exact hl' x (by simpa using hx)
        · exact hl'
    obtain ⟨v, hv⟩ := this
    exact ⟨_, by rw [hv]; rfl⟩
  · exact ⟨_, rfl⟩
  · rename_i ha
    obtain ⟨-, -, hb⟩ := rxArm_length ha
    exact rxTail_next ⟨hp.tx.congr rfl rfl, Nat.zero_le _⟩ hb hl'
  · exact rxTail_next ⟨hp.tx.congr rfl rfl, hp.rx.cursor⟩ hp.rx.length hl'
  · exact rxTail_next ⟨hp.tx.congr rfl rfl, hp.rx.cursor⟩ hp.rx.length hl'
  · rename_i ha
    obtain ⟨-, h3⟩ := rxArm_payload ha
    have h3' : 3 ≤ u.receiveCount.toNat := h3
    have hpos : u.receiveCount.toNat < u.rxLength.toNat + 3 := hp.rx.position
    have hlen := hp.rx.length
    unfold armPayload memWrite1
    rw [if_pos (by show u.receiveCount.toNat - 3 + 1 ≤ u.cfg.cap; omega), orFault_some]
    exact rxTail_next (s := { u with rxData := _ }) ⟨hp.tx.congr rfl rfl, hp.rx.cursor⟩ hp.rx.length hl'

theorem feed_inv {bs : List Byte} {s t : State} (h : ByteInv s) (e : feed bs s = .next t) : ByteInv t := by
  induction bs generalizing s with
  | nil => cases e; exact h
  | cons b bs ih =>
    obtain ⟨u, hu, e⟩ := andThen_eq_next.1 e
    exact ih (rxByte_inv h hu) e

theorem feed_next {bs : List Byte} {s : State} (h : ByteInv s) (hl : handlersLegal s) : ∃ t, feed bs s = .next t := by
  induction bs generalizing s with
  | nil => exact ⟨s, rfl⟩
  | cons b bs ih =>
    obtain ⟨u, hu⟩ := rxByte_next (b := b) h hl
    obtain ⟨t, ht⟩ := ih (rxByte_inv h hu) (handlersLegal_of_suffix (rxByte_stream hu).handlers hl)
    exact ⟨t, by simp [feed, hu, ht]⟩

end Sys2Proof.Machine
end

