-- ==== Sys2Proof/Laws/Frames.lean ====
section
/-! SUPPORT. What each arm of RXBYTE does, one equation each, and what a whole frame does: a data frame brings the receive
Message to completion, whatever its checksum; a status frame and an overlong one end at their second byte. -/

namespace Sys2Proof.Machine

/-- The receive side after a byte is refreshed as R151 says. -/
theorem rxPrologue_eq (s : State) : rxPrologue s = s.refreshed := rfl

theorem frameKind_of_le {c : Config} {b : Byte} (h : b.toNat ≤ c.cap) : frameKind c b = .data := frameKind_data.2 h

/-! ## One byte -/

theorem rxByte_start {s : State} (h : s.receiving = false) : rxByte MARKER s = .next (armStart s.refreshed) := by
  simp [rxByte, rxArm, rxPrologue_eq, State.refreshed, h]

theorem rxByte_violation {s : State} (h : s.receiving = false) {b : Byte} (hb : b ≠ MARKER) :
    rxByte b s = .next (armViolation s.refreshed) := by
  have ha : rxArm b s.refreshed = .violation := by
    rw [rxArm_idle (by exact h), if_neg hb]
  simp only [rxByte, rxPrologue_eq, ha]

theorem rxByte_status {s : State} (h : s.receiving = true) (h0 : s.receiveCount = 0) {b : Byte}
    (hb : STATUS_MIN ≤ b) : rxByte b s = armStatus b s.refreshed := by
  simp [rxByte, rxArm, rxPrologue_eq, State.refreshed, h, h0, frameKind_status.2 hb]

theorem rxByte_overflow {s : State} (h : s.receiving = true) (h0 : s.receiveCount = 0) {b : Byte}
    (hb : ¬ STATUS_MIN ≤ b) (hc : s.cfg.cap < b.toNat) : rxByte b s = .next (rejectFrame s.refreshed) := by
  simp [rxByte, rxArm, rxPrologue_eq, State.refreshed, h, h0, frameKind_tooLong.2 ⟨hb, hc⟩]

theorem rxByte_length {s : State} (h : s.receiving = true) (h0 : s.receiveCount = 0) {b : Byte}
    (hb : b.toNat ≤ s.cfg.cap) :
    rxByte b s = .next { s.refreshed with
      rxLength := b, receiveCursor := 0, acc := s.acc + b, receiveCount := 1 } := by
  have h1 : ¬ (1 = BitVec.toNat b + 3) := by omega
  simp [rxByte, rxArm, rxPrologue_eq, State.refreshed, h, h0, frameKind_of_le hb, rxTail, rxAdvance, storeHeader,
    frameComplete, HEADER]

theorem rxByte_feature {s : State} (h : s.receiving = true) (h1 : s.receiveCount = 1) (b : Byte) :
    rxByte b s = .next { s.refreshed with rxFeature := b, acc := s.acc + b, receiveCount := 2 } := by
  simp [rxByte, rxArm, rxPrologue_eq, State.refreshed, h, h1, rxTail, rxAdvance, storeHeader, frameComplete, HEADER]

/-- What the checksum byte leaves before the test for completion. -/
def State.checksumStored (b : Byte) (s : State) : State :=
  { s.refreshed with rxChecksum := b, acc := s.acc + b, receiveCount := 3 }

/-- What a payload byte leaves before the test for completion. -/
def State.payloadStored (b : Byte) (s : State) : State :=
  { s.refreshed with
    rxData := s.rxData.write (s.receiveCount.toNat - 3) b, acc := s.acc + b, receiveCount := s.receiveCount + 1 }

theorem rxByte_checksum_tail {s : State} (h : s.receiving = true) (h2 : s.receiveCount = 2) (b : Byte) :
    rxByte b s = if frameComplete (s.checksumStored b) then complete (s.checksumStored b)
      else .next (s.checksumStored b) := by
  have ha : rxArm b s.refreshed = .checksum := by
    simp [rxArm, State.refreshed, h, h2]
  have hc : rxAdvance b (storeHeader .checksum b s.refreshed) = s.checksumStored b := by
    simp [rxAdvance, storeHeader, State.checksumStored, State.refreshed, h2]
  simp only [rxByte, rxPrologue_eq, ha, rxTail, hc]

/-- A frame with no payload completes at its checksum byte (R157). -/
theorem rxByte_checksum_last {s : State} (h : s.receiving = true) (h2 : s.receiveCount = 2) (hl : s.rxLength = 0)
    (b : Byte) : rxByte b s = complete (s.checksumStored b) := by
  rw [rxByte_checksum_tail h h2, if_pos]
  simp [frameComplete, State.checksumStored, State.refreshed, hl, HEADER]

theorem rxByte_checksum {s : State} (h : s.receiving = true) (h2 : s.receiveCount = 2) (hl : s.rxLength ≠ 0)
    (b : Byte) : rxByte b s = .next (s.checksumStored b) := by
  have hl' : s.rxLength.toNat ≠ 0 := fun h => hl (BitVec.eq_of_toNat_eq h)
  rw [rxByte_checksum_tail h h2, if_neg]
  have h3 : (3 : Byte).toNat = 3 := rfl
  simp only [frameComplete, State.checksumStored, State.refreshed, HEADER, h3, decide_eq_true_eq]
  omega

theorem rxByte_payload_tail {s : State} (h : s.receiving = true) (h3 : 3 ≤ s.receiveCount.toNat)
    (hi : s.receiveCount.toNat - 3 + 1 ≤ s.cfg.cap) (b : Byte) :
    rxByte b s = if frameComplete (s.payloadStored b) then complete (s.payloadStored b)
      else .next (s.payloadStored b) := by
  have n0 : s.receiveCount ≠ 0 := fun e => by rw [e] at h3; exact absurd h3 (by decide)
  have n1 : s.receiveCount ≠ 1 := fun e => by rw [e] at h3; exact absurd h3 (by decide)
  have n2 : s.receiveCount ≠ 2 := fun e => by rw [e] at h3; exact absurd h3 (by decide)
  have ha : rxArm b s.refreshed = .payload := by
    simp only [rxArm, State.refreshed, h, n0, n1, n2]
    rfl
  simp only [rxByte, rxPrologue_eq, ha, armPayload]
  rw [memWrite1, if_pos (by exact hi), orFault_some]
  rfl

theorem frameComplete_payload {s : State} (hp : s.receiveCount.toNat < s.rxLength.toNat + 3)
    (hl : s.rxLength.toNat ≤ s.cfg.cap) (b : Byte) :
    frameComplete (s.payloadStored b) = decide (s.receiveCount.toNat + 1 = s.rxLength.toNat + 3) := by
  have hs : (s.receiveCount + 1).toNat = s.receiveCount.toNat + 1 := count_succ (c := s.cfg) (by omega)
  simp only [frameComplete, State.payloadStored, State.refreshed, HEADER, hs]

/-- The last payload byte completes the frame (R161). -/
theorem rxByte_payload_last {s : State} (h : s.receiving = true) (h3 : 3 ≤ s.receiveCount.toNat)
    (hp : s.receiveCount.toNat + 1 = s.rxLength.toNat + 3) (hl : s.rxLength.toNat ≤ s.cfg.cap) (b : Byte) :
    rxByte b s = complete (s.payloadStored b) := by
  rw [rxByte_payload_tail h h3 (by omega), frameComplete_payload (by omega) hl, if_pos (by simpa using hp)]

/-- An earlier payload byte is stored (R159). -/
theorem rxByte_payload {s : State} (h : s.receiving = true) (h3 : 3 ≤ s.receiveCount.toNat)
    (hp : s.receiveCount.toNat < s.rxLength.toNat + 2) (hl : s.rxLength.toNat ≤ s.cfg.cap) (b : Byte) :
    rxByte b s = .next (s.payloadStored b) := by
  rw [rxByte_payload_tail h h3 (by omega), frameComplete_payload (by omega) hl, if_neg]
  simp only [decide_eq_true_eq]
  omega

/-- A complete frame whose sum is 0 (R161, R162): ACK, callback, purge, success counter. -/
theorem complete_valid {s : State} (h : s.acc = 0) (hl : s.rxLength.toNat ≤ s.cfg.cap) :
    complete s = andThen (emit (.onMessage s.rxLength s.rxFeature s.rxChecksum (s.rxData.firstBytes s.rxLength.toNat))
      (sendStatus s.cfg.stAck s)) fun u => .next (countSuccess (purgeRx u)) := by
  rw [complete, if_pos h, armValid, memPrefix, if_pos hl, orFault_some]

/-- A complete frame whose sum is not 0 (R161, R167). -/
theorem complete_mismatch {s : State} (h : s.acc ≠ 0) : complete s = .next (rejectFrame s) := by
  rw [complete, if_neg h]

/-! ## A run of payload bytes -/

/-- A run of bytes written from index `i`. -/
def Memory.writeRun (m : Memory) (i : Nat) : List Byte → Memory
  | [] => m
  | b :: bs => Memory.writeRun (m.write i b) (i + 1) bs

theorem Memory.writeRun_wf {m : Memory} (h : m.wf = true) (i : Nat) (bs : List Byte) :
    (m.writeRun i bs).wf = true := by
  induction bs generalizing m i with
  | nil => exact h
  | cons b bs ih => exact ih (Memory.write_wf h i b) (i + 1)

theorem Memory.read_writeRun {m : Memory} (h : m.wf = true) (i : Nat) (bs : List Byte) (j : Nat) :
    (m.writeRun i bs).read j = if i ≤ j then bs.getD (j - i) (m.read j) else m.read j := by
  induction bs generalizing m i with
  | nil => simp [Memory.writeRun]
  | cons b bs ih =>
    show ((m.write i b).writeRun (i + 1) bs).read j = _
    rw [ih (Memory.write_wf h i b), Memory.read_write h]
    by_cases hj : j = i
    · subst hj
      rw [if_neg (by omega), if_pos rfl, if_pos (Nat.le_refl j), Nat.sub_self]
      rfl
    · by_cases hlt : i + 1 ≤ j
      · rw [if_pos hlt, if_neg hj, if_pos (by omega), show j - i = (j - (i + 1)) + 1 by omega]
        rfl
      · rw [if_neg hlt, if_neg hj, if_neg (by omega)]

theorem Memory.firstBytes_writeRun (bs : List Byte) :
    (Memory.writeRun [] 0 bs).firstBytes bs.length = bs := by
  apply List.ext_getElem
  · simp
  · intro n h1 h2
    simp only [Memory.firstBytes, List.getElem_map, List.getElem_range]
    rw [Memory.read_writeRun rfl, if_pos (Nat.zero_le n)]
    simp [List.getD, h2]

/-- A run of payload bytes from position `3 + i` to the end of the payload completes the frame. -/
theorem feed_payload {l : Byte} {p : List Byte} {s : State} {i : Nat} (h : s.receiving = true)
    (hl : s.rxLength = l) (hc : s.receiveCount.toNat = 3 + i) (hp : p ≠ []) (hi : i + p.length = l.toNat)
    (hcap : l.toNat ≤ s.cfg.cap) :
    feed p s = complete { s.refreshed with
      rxData := s.rxData.writeRun i p, acc := s.acc + byteSum p
      receiveCount := s.receiveCount + BitVec.ofNat 8 p.length } := by
  induction p generalizing s i with
  | nil => exact absurd rfl hp
  | cons b q ih =>
    subst hl
    have hn : s.receiveCount.toNat - 3 = i := by omega
    show andThen (rxByte b s) (feed q) = _
    cases q with
    | nil =>
      simp only [List.length_cons, List.length_nil] at hi
      rw [rxByte_payload_last h (by omega) (by omega) hcap]
      have hf : feed [] = Host.Outcome.next := rfl
      rw [hf, andThen_next_right]
      simp only [State.payloadStored, Memory.writeRun, hn, byteSum_cons, byteSum_nil]
      simp
    | cons b' q' =>
      simp only [List.length_cons] at hi
      rw [rxByte_payload h (by omega) (by omega) hcap, andThen_next]
      have hs : (s.receiveCount + 1).toNat = s.receiveCount.toNat + 1 := count_succ (c := s.cfg) (by omega)
      rw [ih (i := i + 1) (s := s.payloadStored b) h rfl (by exact hs.trans (by omega)) (by simp)
        (by show i + 1 + (q'.length + 1) = s.rxLength.toNat; omega) hcap]
      have h1 : (1 : Byte).toNat = 1 := rfl
      have hadd : ∀ n : Nat, s.receiveCount + 1 + BitVec.ofNat 8 n = s.receiveCount + BitVec.ofNat 8 (n + 1) := by
        intro n
        rw [BitVec.add_assoc]
        congr 1
        apply BitVec.eq_of_toNat_eq
        simp only [BitVec.toNat_add, BitVec.toNat_ofNat, h1]
        omega
      simp only [State.payloadStored, State.refreshed, Memory.writeRun, hn, byteSum_cons, hadd, BitVec.add_assoc,
        List.length_cons]

/-! ## Whole frames -/

/-- The state in which a data frame consumed from IDLE completes (R161). -/
def State.filled (s : State) (l f k : Byte) (p : List Byte) : State :=
  { (purgeRx s).refreshed with
    receiving := true, receiveCount := BitVec.ofNat 8 (p.length + 3)
    rxLength := l, rxFeature := f, rxChecksum := k, rxData := Memory.writeRun [] 0 p
    acc := frameSum l f k p }

/-- A data frame of the length it declares, consumed from IDLE, completes with exactly its fields (R118, R161). -/
theorem feed_dataBytes {s : State} (h : s.receiving = false) {l f k : Byte} {p : List Byte}
    (hp : p.length = l.toNat) (hcap : l.toNat ≤ s.cfg.cap) :
    feed (dataBytes l f k p) s = complete (s.filled l f k p) := by
  show andThen (rxByte MARKER s) (fun u => andThen (rxByte l u) fun u => andThen (rxByte f u) fun u =>
    andThen (rxByte k u) (feed p)) = _
  rw [rxByte_start h, andThen_next]
  rw [rxByte_length (by rfl) (by rfl) (by exact hcap), andThen_next]
  rw [rxByte_feature (by rfl) (by rfl), andThen_next]
  by_cases hl : l = 0
  · subst hl
    have hp0 : p = [] := List.length_eq_zero_iff.1 (by simpa using hp)
    subst hp0
    rw [rxByte_checksum_last (by rfl) (by rfl) (by rfl)]
    have hf : feed [] = Host.Outcome.next := rfl
    rw [hf, andThen_next_right]
    simp [State.checksumStored, State.filled, State.refreshed, frameSum, purgeRx, Memory.writeRun, armStart]
  · rw [rxByte_checksum (by rfl) (by rfl) (by exact hl), andThen_next]
    rw [feed_payload (l := l) (i := 0) (by rfl) (by rfl) (by rfl)
      (fun e => hl (BitVec.eq_of_toNat_eq (by rw [← hp, e]; rfl))) (by omega) (by exact hcap)]
    congr 1
    have hadd : (3 : Byte) + BitVec.ofNat 8 p.length = BitVec.ofNat 8 (p.length + 3) := by
      apply BitVec.eq_of_toNat_eq
      have h3 : (3 : Byte).toNat = 3 := rfl
      simp only [BitVec.toNat_add, BitVec.toNat_ofNat, h3]
      omega
    simp only [State.checksumStored, State.filled, State.refreshed, purgeRx, armStart, frameSum, byteSum_cons, hadd]
    simp [BitVec.add_assoc]

/-- A status frame from IDLE is its status arm (R158). -/
theorem feed_statusBytes {s : State} (h : s.receiving = false) {code : Byte} (hc : STATUS_MIN ≤ code) :
    feed (statusBytes code) s = armStatus code (armStart s.refreshed) := by
  show andThen (rxByte MARKER s) (fun u => andThen (rxByte code u) .next) = _
  rw [rxByte_start h, andThen_next, andThen_next_right]
  rw [rxByte_status (by rfl) (by rfl) hc]
  rfl

/-- An overlong frame from IDLE is refused at its length byte (R166). -/
theorem feed_overflow {s : State} (h : s.receiving = false) {l : Byte} (hl : ¬ STATUS_MIN ≤ l)
    (hc : s.cfg.cap < l.toNat) :
    feed [MARKER, l] s = .next (rejectFrame (armStart s.refreshed)) := by
  show andThen (rxByte MARKER s) (fun u => andThen (rxByte l u) .next) = _
  rw [rxByte_start h, andThen_next, andThen_next_right]
  rw [rxByte_overflow (by rfl) (by rfl) hl (by exact hc)]
  rfl

/-- A status code is 0xF0 or more (R92, R98). -/
theorem statusCode_ge (c : Nibble) : STATUS_MIN ≤ statusCode c := by
  revert c; decide

end Sys2Proof.Machine
end

