-- ==== Sys2Proof/Laws/PerInstr.lean ====
section
/-! SUPPORT. What holds of every instruction, one lemma per constructor: the words of an instruction are the words of the
generic row it belongs to (30_encoding.md R100, R103; log 10). -/

namespace Sys2Proof.Laws.GenericWords

/-- The particular row and its generic row have the same words. -/
def Statement (i : Instr) : Prop := encode i.generic = encode i

theorem data (l f k : Byte) (p : List Byte) : Statement (.data l f k p) := rfl
theorem dataMismatch (l f k : Byte) (p : List Byte) : Statement (.dataMismatch l f k p) := rfl
theorem dataOverflow (l : Byte) : Statement (.dataOverflow l) := rfl
theorem status (c : Nibble) : Statement (.status c) := rfl
theorem helo : Statement .helo := rfl
theorem ack (c : Nibble) : Statement (.ack c) := rfl
theorem nack (c : Nibble) : Statement (.nack c) := rfl
theorem fail (c : Nibble) : Statement (.fail c) := rfl
theorem statusReserved (c : Nibble) : Statement (.statusReserved c) := rfl
theorem stray (b : Byte) : Statement (.stray b) := rfl
theorem marker : Statement .marker := rfl
theorem nop : Statement .nop := rfl
theorem connect : Statement .connect := rfl
theorem poll : Statement .poll := rfl
theorem txfeature (f : Byte) : Statement (.txfeature f) := rfl
theorem txbyte (v : Byte) : Statement (.txbyte v) := rfl
theorem txword (w : Half) : Statement (.txword w) := rfl
theorem txlenauto : Statement .txlenauto := rfl
theorem txsend : Statement .txsend := rfl
theorem txsendb (f v : Byte) : Statement (.txsendb f v) := rfl
theorem txsendw (f : Byte) (w : Half) : Statement (.txsendw f w) := rfl
theorem txpurge : Statement .txpurge := rfl
theorem rxgetb : Statement .rxgetb := rfl
theorem rxgetw : Statement .rxgetw := rfl
theorem rdreg (s : Byte) : Statement (.rdreg s) := rfl
theorem rdregRxLength : Statement .rdregRxLength := rfl
theorem rdregRxFeature : Statement .rdregRxFeature := rfl
theorem rdregRxChecksum : Statement .rdregRxChecksum := rfl
theorem rdregRxFeatureset : Statement .rdregRxFeatureset := rfl
theorem rdregReceivecursor : Statement .rdregReceivecursor := rfl
theorem rdregReceivecount : Statement .rdregReceivecount := rfl
theorem rdregTxLength : Statement .rdregTxLength := rfl
theorem rdregTxFeature : Statement .rdregTxFeature := rfl
theorem rdregTxChecksum : Statement .rdregTxChecksum := rfl
theorem rdregTxFeatureset : Statement .rdregTxFeatureset := rfl
theorem rdregSendcursor : Statement .rdregSendcursor := rfl
theorem rdregStatus : Statement .rdregStatus := rfl
theorem rdregFailedcount : Statement .rdregFailedcount := rfl
theorem rdregSuccesscount : Statement .rdregSuccesscount := rfl
theorem rdregHbInterval : Statement .rdregHbInterval := rfl
theorem rdregLastmessagetime : Statement .rdregLastmessagetime := rfl
theorem rdregLastheartbeattime : Statement .rdregLastheartbeattime := rfl
theorem isalive : Statement .isalive := rfl
theorem undefined : Statement .undefined := rfl
theorem rxbyte (b : Byte) : Statement (.rxbyte b) := rfl
theorem timeoutchk : Statement .timeoutchk := rfl
theorem hbtick : Statement .hbtick := rfl

end Sys2Proof.Laws.GenericWords
end

