-- ==== Sys2Proof/Laws/Queue.lean ====
section
/-! SUPPORT. The RX queue is read by POLL and by nothing it runs (41_receive.md R150: RXBYTE "never looks at `rxq`"): every
other operation commutes with a change of the queue, so the drain of POLL is the consumption of the queue's bytes. -/

namespace Sys2Proof.Machine

/-- The state with another RX queue. -/
def State.withQueue (q : List Byte) (s : State) : State := { s with rxq := q }

@[simp] theorem withQueue_self (s : State) : s.withQueue s.rxq = s := rfl

/-- An outcome with another RX queue in its state. -/
def queued (q : List Byte) (o : Result) : Result := andThen o fun s => .next (s.withQueue q)

@[simp] theorem queued_next (q : List Byte) (s : State) : queued q (.next s) = .next (s.withQueue q) := rfl

theorem queued_andThen {q : List Byte} {o : Result} {f : State → Result}
    (h : ∀ s, f (s.withQueue q) = queued q (f s)) : andThen (queued q o) f = queued q (andThen o f) := by
  cases o
  · exact h _
  · rfl
  · rfl

theorem queued_orFault {α : Type} {q : List Byte} {o : Option α} {f g : α → Result}
    (h : ∀ v, f v = queued q (g v)) : orFault o f = queued q (orFault o g) := by
  cases o
  · rfl
  · exact h _

theorem queued_ite {p : Prop} [Decidable p] {q : List Byte} {a b c d : Result} (h : a = queued q c)
    (g : b = queued q d) : (if p then a else b) = queued q (if p then c else d) := by
  split
  · exact h
  · exact g

theorem sendMessage_queue (q : List Byte) (s : State) : sendMessage (s.withQueue q) = queued q (sendMessage s) := by
  refine queued_ite ?_ rfl
  show andThen (emitFrame (s.withQueue q)) (accept 0) = queued q (andThen (emitFrame s) (accept 0))
  have : emitFrame (s.withQueue q) = queued q (emitFrame s) := queued_orFault fun _ => rfl
  rw [this]
  exact queued_andThen fun _ => rfl

theorem handlerCommand_queue (c : Command) (q : List Byte) (s : State) :
    handlerCommand c (s.withQueue q) = queued q (handlerCommand c s) := by
  cases c
  case connect => exact queued_ite rfl (queued_ite rfl rfl)
  case txbyte v => exact queued_ite rfl (queued_orFault fun _ => rfl)
  case txword w => exact queued_ite rfl (queued_orFault fun _ => rfl)
  case txsend => exact sendMessage_queue q s
  case txsendb f v =>
    exact queued_orFault fun m =>
      sendMessage_queue q { s with txFeature := f, txData := m, txLength := 1, sendCursor := 1 }
  case txsendw f w =>
    exact queued_ite rfl (queued_orFault fun m =>
      sendMessage_queue q { s with txFeature := f, txData := m, txLength := 2, sendCursor := 2 })
  case rxgetb => exact queued_ite rfl (queued_orFault fun _ => rfl)
  case rxgetw => exact queued_ite rfl (queued_orFault fun _ => rfl)
  case rdreg sel =>
    show execRdreg sel (s.withQueue q) = queued q (execRdreg sel s)
    unfold execRdreg
    split
    · rename_i r hr
      cases r <;> rfl
    · rfl
  all_goals rfl

theorem runHandler_queue (h : List CmdWord) (q : List Byte) (s : State) :
    runHandler h (s.withQueue q) = queued q (runHandler h s) := by
  induction h generalizing s with
  | nil => rfl
  | cons w rest ih =>
    show andThen (handlerCommand (commandOf w) (s.withQueue q)) (runHandler rest) = _
    rw [handlerCommand_queue]
    exact queued_andThen ih

theorem emit_queue (e : Event) (q : List Byte) (s : State) : emit e (s.withQueue q) = queued q (emit e s) := by
  have hq : (s.withQueue q).handlers = s.handlers := rfl
  unfold emit
  split
  · rename_i h
    split
    · rfl
    · rename_i g; rw [hq, g] at h; cases h
  · rename_i x rest h
    split
    · rename_i g; rw [hq, g] at h; cases h
    · rename_i y tail g
      rw [hq, g] at h
      cases h
      exact runHandler_queue x q { s with evTrace := s.evTrace ++ [e], handlers := rest }

theorem sendStatus_queue (c : Byte) (q : List Byte) (s : State) :
    sendStatus c (s.withQueue q) = (sendStatus c s).withQueue q := by
  simp only [sendStatus_eq]
  rfl

theorem rejectFrame_queue (q : List Byte) (s : State) : rejectFrame (s.withQueue q) = (rejectFrame s).withQueue q := by
  show countFailed (purgeRx (sendStatus s.cfg.stNack (s.withQueue q))) = _
  rw [sendStatus_queue]
  rfl

theorem complete_queue (q : List Byte) (s : State) : complete (s.withQueue q) = queued q (complete s) := by
  refine queued_ite ?_ (congrArg _ (rejectFrame_queue q s))
  refine queued_orFault fun _ => ?_
  show andThen (emit _ (sendStatus s.cfg.stAck (s.withQueue q))) _ = _
  rw [sendStatus_queue, emit_queue]
  exact queued_andThen fun _ => rfl

theorem rxTail_queue (b : Byte) (q : List Byte) (s : State) : rxTail b (s.withQueue q) = queued q (rxTail b s) :=
  queued_ite (complete_queue q (rxAdvance b s)) rfl

/-- RXBYTE never looks at the queue (R150). -/
theorem rxByte_queue (b : Byte) (q : List Byte) (s : State) : rxByte b (s.withQueue q) = queued q (rxByte b s) := by
  have ha : rxArm b (rxPrologue (s.withQueue q)) = rxArm b (rxPrologue s) := rfl
  unfold rxByte
  simp only [ha]
  cases rxArm b (rxPrologue s)
  case status =>
    show armStatus b ((rxPrologue s).withQueue q) = queued q (armStatus b (rxPrologue s))
    unfold armStatus
    simp only
    by_cases hb : b = ST_HELO
    · rw [if_pos hb, if_pos hb]
      show andThen (emit _ (sendStatus _ ((rxPrologue s).withQueue q))) _ = _
      rw [sendStatus_queue, emit_queue]
      exact queued_andThen fun _ => rfl
    · rw [if_neg hb, if_neg hb, emit_queue]
      exact queued_andThen fun _ => rfl
  case overflow => exact congrArg _ (rejectFrame_queue q (rxPrologue s))
  case length => exact rxTail_queue b q (storeHeader .length b (rxPrologue s))
  case feature => exact rxTail_queue b q (storeHeader .feature b (rxPrologue s))
  case checksum => exact rxTail_queue b q (storeHeader .checksum b (rxPrologue s))
  case payload => exact queued_orFault fun m => rxTail_queue b q { rxPrologue s with rxData := m }
  all_goals rfl

theorem feed_queue (bs q : List Byte) (s : State) : feed bs (s.withQueue q) = queued q (feed bs s) := by
  induction bs generalizing s with
  | nil => rfl
  | cons b bs ih =>
    show andThen (rxByte b (s.withQueue q)) (feed bs) = _
    rw [rxByte_queue]
    exact queued_andThen ih

/-- The drain of POLL empties the queue and consumes its bytes (R243). -/
theorem drain_eq_feed (bs : List Byte) (s : State) (h : s.rxq = bs) : drain bs s = feed bs (s.withQueue []) := by
  induction bs generalizing s with
  | nil => exact congrArg _ (by rw [← h]; rfl)
  | cons b bs ih =>
    show andThen (rxByte b (s.withQueue bs)) (drain bs) = andThen (rxByte b (s.withQueue [])) (feed bs)
    rw [rxByte_queue, rxByte_queue]
    cases hr : rxByte b s with
    | next t =>
      show drain bs (t.withQueue bs) = feed bs (t.withQueue [])
      rw [ih _ rfl]
      rfl
    | fault r => rfl
    | refused r => rfl

end Sys2Proof.Machine
end

