-- ==== Sys2Proof/Tests/Slice0.lean ====
section
/-! SUPPORT. The model's own tests. The expected results are those of spec/95_test_vectors.md, named by their ids (V, R, Q,
T, H, A, P), or of the encoding tables of 30_encoding.md; all in the reference configuration unless said. The last part
shows, for every statement with hypotheses, a state and operands that meet them. -/

namespace Sys2Proof.Tests

open Sys2Proof.Machine

/-! ## Helpers -/

/-- "fresh" of 95_test_vectors.md: connected at time 0 with no heartbeat, read at `t`. -/
def fresh (t : Nat) : State := { State.reset with configured := true, now := t }

/-- As H4: connected at time 0 with an interval of 1000. -/
def beating (t : Nat) : State := { fresh t with hbInterval := 1000 }

/-- The receive Message of R1 after the byte `12`: position 4 of a frame of two payload bytes. -/
def inFrame : State :=
  { fresh 10 with
    receiving := true, rxLength := 2, rxFeature := 0x32, rxChecksum := 0x86, rxData := [(0, 0x12)]
    receiveCount := 4, acc := 0xCC }

/-- A send Message with `n` bytes 0x11 and the cursor after them. -/
def built (n : Nat) : State :=
  { fresh 0 with
    txFeature := 0x22, txData := (List.range n).map fun i => (i, 0x11)
    txLength := BitVec.ofNat 8 n, sendCursor := BitVec.ofNat 8 n }

/-- The reference configuration with a buffer of one byte. -/
def oneByte : Config := { Config.reference with cap := 1, legal := by decide }

/-- A view of the state an outcome goes on with. -/
def after {α : Type} (r : Result) (f : State → α) : Option α :=
  match r with
  | .next s => some (f s)
  | .fault _ => none
  | .refused _ => none

/-- The refusal an outcome ends with. -/
def refusal (r : Result) : Option Refusal :=
  match r with
  | .refused q => some q
  | .next _ => none
  | .fault _ => none

/-! ## Decoding: words written out from 30_encoding.md R91, R92, R95, R100 and 10_state.md R41 -/

theorem test_decode_setup :
    decodeCommand 0b0000_00000000_0000000000000000 = .nop ∧ decodeCommand 0b0001_00000000_0000000000000000 = .connect ∧
    decodeCommand 0b0010_11111111_1111111111111111 = .poll ∧ decodeCommand 0b1110_00000000_0000000000000000 = .isalive ∧
    decodeCommand 0b1111_00000000_0000000000000000 = .undefined := by decide

theorem test_decode_send :
    decodeCommand 0b0011_00100001_0000000000000000 = .txfeature 0x21 ∧
    decodeCommand 0b0100_11110000_1010101000000101 = .txbyte 0x05 ∧
    decodeCommand 0b0101_11110000_0001001000110100 = .txword 0x1234 ∧
    decodeCommand 0b0110_00000000_0000000000000000 = .txlenauto ∧ decodeCommand 0b0111_00000000_0000000000000000 = .txsend ∧
    decodeCommand 0b1000_00100001_1010101000000101 = .txsendb 0x21 0x05 ∧
    decodeCommand 0b1001_00110010_0001001000110100 = .txsendw 0x32 0x1234 ∧
    decodeCommand 0b1010_00000000_0000000000000000 = .txpurge := by decide

theorem test_decode_receive_reads :
    decodeCommand 0b1011_00000000_0000000000000000 = .rxgetb ∧
    decodeCommand 0b1100_00000000_0000000000000000 = .rxgetw := by decide

theorem test_decode_rdreg_rx :
    decodeCommand 0b1101_00000000_0000000000000000 = .rdregRxLength ∧
    decodeCommand 0b1101_00000001_0000000000000000 = .rdregRxFeature ∧
    decodeCommand 0b1101_00000010_0000000000000000 = .rdregRxChecksum ∧
    decodeCommand 0b1101_00000011_0000000000000000 = .rdregRxFeatureset ∧
    decodeCommand 0b1101_00000100_0000000000000000 = .rdregReceivecursor ∧
    decodeCommand 0b1101_00000101_1111111111111111 = .rdregReceivecount := by decide

theorem test_decode_rdreg_tx :
    decodeCommand 0b1101_00010000_0000000000000000 = .rdregTxLength ∧
    decodeCommand 0b1101_00010001_0000000000000000 = .rdregTxFeature ∧
    decodeCommand 0b1101_00010010_0000000000000000 = .rdregTxChecksum ∧
    decodeCommand 0b1101_00010011_0000000000000000 = .rdregTxFeatureset ∧
    decodeCommand 0b1101_00010100_0000000000000000 = .rdregSendcursor := by decide

theorem test_decode_rdreg_link :
    decodeCommand 0b1101_00100000_0000000000000000 = .rdregStatus ∧
    decodeCommand 0b1101_00100001_0000000000000000 = .rdregFailedcount ∧
    decodeCommand 0b1101_00100010_0000000000000000 = .rdregSuccesscount ∧
    decodeCommand 0b1101_00110000_0000000000000000 = .rdregHbInterval ∧
    decodeCommand 0b1101_00110001_0000000000000000 = .rdregLastmessagetime ∧
    decodeCommand 0b1101_00110010_0000000000000000 = .rdregLastheartbeattime ∧
    decodeCommand 0b1101_01000000_0000000000000000 = .rdreg 0x40 := by decide

theorem test_decode_data_frames :
    decodeStream .reference false [0xFF, 0x02, 0x32, 0x86, 0x12, 0x34, 0xFF] = .instr (.data 2 0x32 0x86 [0x12, 0x34]) [0xFF] ∧
    decodeStream .reference false [0xFF, 0x02, 0x32, 0x86, 0x12, 0x35] =
      .instr (.dataMismatch 2 0x32 0x86 [0x12, 0x35]) [] ∧
    decodeStream .reference false [0xFF, 0x09, 0x7F] = .instr (.dataOverflow 9) [0x7F] ∧
    decodeStream .reference false [0xFF, 0xEF] = .instr (.dataOverflow 0xEF) [] := by decide

theorem test_decode_status_frames :
    decodeStream .reference false [0xFF, 0b11111011] = .instr .helo [] ∧
    decodeStream .reference false [0xFF, 0b11110000] = .instr (.ack 0) [] ∧
    decodeStream .reference false [0xFF, 0b11110001] = .instr (.nack 1) [] ∧
    decodeStream .reference false [0xFF, 0b11110010] = .instr (.fail 2) [] ∧
    decodeStream .reference false [0xFF, 0b11110111] = .instr (.statusReserved 7) [] ∧
    decodeStream .reference false [0xFF, 0xFF, 0xFF] = .instr (.statusReserved 0xF) [0xFF] ∧
    Instr.generic (.statusReserved 7) = .status 7 ∧ encode (.status 7) = some (.stream [0xFF, 0b11110111]) := by decide

theorem test_decode_stream_bytes :
    decodeStream .reference false [0xFF] = .instr .marker [] ∧
    decodeStream .reference false [0xFF, 0x02, 0x32, 0x86, 0x12] = .instr .marker [0x02, 0x32, 0x86, 0x12] ∧
    decodeStream .reference false [0x41, 0x00] = .instr (.stray 0x41) [0x00] ∧
    decodeStream .reference true [0xFF, 0xFB] = .instr (.rxbyte 0xFF) [0xFB] ∧
    decodeStream .reference false [] = .reject .noByte := by decide

theorem test_decode_table_words :
    decodeTableWord 32 0xFF000000 = some (.data 0 0 0 []) ∧ decodeTableWord 32 0xFF023286 = some (.dataMismatch 2 0x32 0x86 [0, 0]) ∧
    decodeTableWord 16 0xFF09 = some (.dataOverflow 9) ∧ decodeTableWord 16 0xFFFB = some .helo ∧
    decodeTableWord 8 0x41 = some (.stray 0x41) ∧ decodeTableWord 8 0xFF = some .marker ∧
    decodeTableWord 32 0x8210005 = some (.txsendb 0x21 0x05) ∧ decodeTableWord 28 0xF000000 = some .undefined := by decide

theorem test_micro_steps_have_no_words :
    encode (.rxbyte 0) = none ∧ encode .timeoutchk = none ∧ encode .hbtick = none := by decide

/-! ## Well-formedness: an ill-formed term for each check -/

theorem test_wf_refuses_data :
    (Instr.data 1 0 0xFF []).wf .reference = false ∧
    (Instr.data 9 0 0xF7 [0, 0, 0, 0, 0, 0, 0, 0, 0]).wf .reference = false ∧
    (Instr.data 2 0x32 0x86 [0x12, 0x35]).wf .reference = false := by decide

theorem test_wf_refuses_mismatch :
    (Instr.dataMismatch 1 0 0 []).wf .reference = false ∧
    (Instr.dataMismatch 9 0 0 [0, 0, 0, 0, 0, 0, 0, 0, 0]).wf .reference = false ∧
    (Instr.dataMismatch 2 0x32 0x86 [0x12, 0x34]).wf .reference = false := by decide

theorem test_wf_refuses_overflow :
    (Instr.dataOverflow 8).wf .reference = false ∧ (Instr.dataOverflow 0xF0).wf .reference = false := by decide

theorem test_wf_refuses_status :
    (Instr.status 0).wf .reference = false ∧ (Instr.ack 1).wf .reference = false ∧ (Instr.nack 2).wf .reference = false ∧
    (Instr.fail 0).wf .reference = false ∧ (Instr.statusReserved 0xB).wf .reference = false ∧
    (Instr.statusReserved 0).wf .reference = false ∧ (Instr.statusReserved 1).wf .reference = false ∧
    (Instr.statusReserved 2).wf .reference = false := by decide

theorem test_wf_refuses_stray_and_rdreg :
    (Instr.stray 0xFF).wf .reference = false ∧ (Instr.rdreg 0x00).wf .reference = false ∧
    (Instr.rdreg 0x32).wf .reference = false := by decide

theorem test_params_refused :
    Params.legal ⟨0, 100, 32, 16, 0xF0, 0xF1, 0xF2⟩ = false ∧ Params.legal ⟨240, 100, 32, 16, 0xF0, 0xF1, 0xF2⟩ = false ∧
    Params.legal ⟨8, 100, 7, 16, 0xF0, 0xF1, 0xF2⟩ = false ∧ Params.legal ⟨8, 256, 8, 16, 0xF0, 0xF1, 0xF2⟩ = false ∧
    Params.legal ⟨8, 100, 65, 16, 0xF0, 0xF1, 0xF2⟩ = false ∧ Params.legal ⟨8, 100, 32, 0, 0xF0, 0xF1, 0xF2⟩ = false ∧
    Params.legal ⟨8, 100, 32, 65, 0xF0, 0xF1, 0xF2⟩ = false := by decide

theorem test_params_codes_refused :
    Params.legal ⟨8, 100, 32, 16, 0xEF, 0xF1, 0xF2⟩ = false ∧ Params.legal ⟨8, 100, 32, 16, 0xF0, 0xEF, 0xF2⟩ = false ∧
    Params.legal ⟨8, 100, 32, 16, 0xF0, 0xF1, 0xEF⟩ = false ∧ Params.legal ⟨8, 100, 32, 16, 0xF0, 0xF0, 0xF2⟩ = false ∧
    Params.legal ⟨8, 100, 32, 16, 0xF0, 0xF1, 0xF0⟩ = false ∧ Params.legal ⟨8, 100, 32, 16, 0xF0, 0xF1, 0xF1⟩ = false ∧
    Params.legal ⟨8, 100, 32, 16, 0xFB, 0xF1, 0xF2⟩ = false ∧ Params.legal ⟨8, 100, 32, 16, 0xF0, 0xFB, 0xF2⟩ = false ∧
    Params.legal ⟨8, 100, 32, 16, 0xF0, 0xF1, 0xFB⟩ = false := by decide

theorem test_params_refused_have_no_config : Config.ofParams? ⟨0, 100, 32, 16, 0xF0, 0xF1, 0xF2⟩ = none := by decide

/-! ## Receiving -/

/-- R1. -/
theorem test_data_delivered :
    after (exec (.data 2 0x32 0x86 [0x12, 0x34]) (fresh 10)) (fun t => (t.txTrace, t.evTrace, t.failedCount, t.successCount)) =
      some ([0xFF, 0xF0], [.onMessage 2 0x32 0x86 [0x12, 0x34]], 0, 1) := by decide

/-- R9: a full buffer. -/
theorem test_data_full_buffer :
    after (exec (.data 8 0x7F 0x55 [1, 2, 3, 4, 5, 6, 7, 8]) (fresh 10)) (fun t => t.evTrace) =
      some [.onMessage 8 0x7F 0x55 [1, 2, 3, 4, 5, 6, 7, 8]] := by decide

/-- R6. -/
theorem test_mismatch_rejected :
    after (exec (.dataMismatch 2 0x32 0x86 [0x12, 0x35]) (fresh 10)) (fun t => (t.txTrace, t.evTrace, t.failedCount, t.receiving)) =
      some ([0xFF, 0xF1], [], 1, false) := by decide

/-- R10. -/
theorem test_overflow_refused :
    after (exec (.dataOverflow 9) (fresh 10)) (fun t => (t.txTrace, t.failedCount, t.receiving)) =
      some ([0xFF, 0xF1], 1, false) := by decide

/-- Q1. -/
theorem test_helo_answered :
    after (exec .helo (fresh 10)) (fun t => (t.txTrace, t.evTrace)) = some ([0xFF, 0xF0], [.onStatus 0xFB]) := by decide

/-- Q2, Q3, Q4, Q5, Q6. -/
theorem test_status_frames_forwarded :
    after (exec (.ack 0) (fresh 10)) (fun t => (t.txTrace, t.evTrace)) = some ([], [.onStatus 0xF0]) ∧
    after (exec (.nack 1) (fresh 10)) (fun t => (t.txTrace, t.evTrace)) = some ([], [.onStatus 0xF1]) ∧
    after (exec (.fail 2) (fresh 10)) (fun t => (t.txTrace, t.evTrace)) = some ([], [.onStatus 0xF2]) ∧
    after (exec (.statusReserved 7) (fresh 10)) (fun t => (t.txTrace, t.evTrace)) = some ([], [.onStatus 0xF7]) ∧
    after (exec (.status 0xF) (fresh 10)) (fun t => (t.txTrace, t.evTrace)) = some ([], [.onStatus 0xFF]) := by decide

/-- Q9: one of its bytes. -/
theorem test_stray_counted :
    after (exec (.stray 0xFE) (fresh 10)) (fun t => (t.failedCount, t.lastMessageTime, t.txTrace)) = some (1, 10, []) := by decide

/-- The first line of the trace of R1. -/
theorem test_marker_opens :
    after (exec .marker (fresh 10)) (fun t => (t.receiving, t.receiveCount, t.acc)) = some (true, 0, 0) := by decide

/-- The trace of R1 from 12 to 34: the last byte completes the frame. -/
theorem test_rxbyte_completes :
    after (exec (.rxbyte 0x34) inFrame) (fun t => (t.evTrace, t.receiving, t.successCount)) =
      some ([.onMessage 2 0x32 0x86 [0x12, 0x34]], false, 1) := by decide

/-- The trace of R1, byte 32. -/
theorem test_rxbyte_feature :
    after (exec (.rxbyte 0x32) { fresh 10 with receiving := true, rxLength := 2, receiveCount := 1, acc := 0x02 })
      (fun t => (t.rxFeature, t.receiveCount, t.acc)) = some (0x32, 2, 0x34) := by decide

/-- P2: the handler replies from inside the callback, after the ACK and before the purge. -/
theorem test_handler_replies :
    after (exec .poll { fresh 10 with
        rxq := [0xFF, 0x02, 0x32, 0x86, 0x12, 0x34], handlers := [[0xC000000, 0x9331235]] })
      (fun t => (t.txTrace, t.rspTrace, t.successCount)) =
      some ([0xFF, 0xF0, 0xFF, 0x02, 0x33, 0x84, 0x12, 0x35], [⟨true, 0x1234⟩, ⟨true, 0⟩, ⟨true, 0⟩], 1) := by decide

/-- R16: three frames in one POLL. -/
theorem test_poll_three_frames :
    after (exec .poll { fresh 10 with rxq := [0xFF, 1, 0x21, 0xD9, 5, 0xFF, 0xFB, 0xFF, 0, 0x10, 0xF0] })
      (fun t => (t.txTrace, t.evTrace)) =
      some ([0xFF, 0xF0, 0xFF, 0xF0, 0xFF, 0xF0],
        [.onMessage 1 0x21 0xD9 [5], .onStatus 0xFB, .onMessage 0 0x10 0xF0 []]) := by decide

/-- R1 split over POLLs: the last byte, in a POLL of its own at 110. -/
theorem test_poll_ends_split_frame :
    after (exec .poll { inFrame with now := 110, lastMessageTime := 60, rxq := [0x34] })
      (fun t => (t.txTrace, t.evTrace, t.lastMessageTime)) =
      some ([0xFF, 0xF0], [.onMessage 2 0x32 0x86 [0x12, 0x34]], 110) := by decide

/-- U3: POLL inside a handler is refused by name. -/
theorem test_poll_in_handler_refused :
    refusal (exec .poll { fresh 10 with rxq := [0xFF, 0xF0], handlers := [[0x2000000]] }) = some .pollInHandler := by decide

/-! ## Timers -/

/-- H1: at 1100 nothing. -/
theorem test_timeout_not_yet :
    after (exec .timeoutchk { fresh 1100 with receiving := true, lastMessageTime := 1000 })
      (fun t => (t.receiving, t.txTrace)) = some (true, []) := by decide

/-- H2: at 0x55, after the clock has wrapped, NACK and no counter. -/
theorem test_timeout_wraps :
    after (exec .timeoutchk { fresh 0x55 with receiving := true, receiveCount := 1, rxLength := 3, lastMessageTime := 0xFFFFFFF0 })
      (fun t => (t.receiving, t.txTrace, t.failedCount)) = some (false, [0xFF, 0xF1], 0) := by decide

/-- H4: at 1000 nothing, at 1001 a HELO. -/
theorem test_hbtick_helo :
    after (exec .hbtick (beating 1000)) (fun t => t.txTrace) = some [] ∧
    after (exec .hbtick (beating 1001)) (fun t => (t.txTrace, t.lastHeartbeatTime, t.heartbeatDead)) =
      some ([0xFF, 0xFB], 1001, false) := by decide

/-- H8: both tests fire in one tick. -/
theorem test_hbtick_dead :
    after (exec .hbtick (beating 5001)) (fun t => (t.txTrace, t.lastHeartbeatTime, t.heartbeatDead)) =
      some ([0xFF, 0xFB], 5001, true) := by decide

/-- H5 and H9. -/
theorem test_isalive :
    after (exec .isalive (beating 999)) (fun t => t.rspTrace) = some [⟨true, 1⟩] ∧
    after (exec .isalive (beating 1000)) (fun t => t.rspTrace) = some [⟨true, 0⟩] ∧
    after (exec .isalive (fresh 100000)) (fun t => t.rspTrace) = some [⟨true, 0⟩] := by decide

/-! ## Sending -/

/-- T10. -/
theorem test_txbyte_appends_and_rejects :
    after (exec (.txbyte 0x11) (built 7)) (fun t => (t.txLength, t.sendCursor, t.txData.read 7)) = some (8, 8, 0x11) ∧
    after (exec (.txbyte 0x11) (built 8)) (fun t => (t.txLength, t.rspTrace)) = some (8, [⟨false, 0⟩]) := by decide

/-- T4 and T11. -/
theorem test_txword_big_endian_and_rejects :
    after (exec (.txword 0x1234) (fresh 0)) (fun t => (t.txData.read 0, t.txData.read 1, t.sendCursor)) =
      some (0x12, 0x34, 2) ∧
    after (exec (.txword 0xAABB) (built 7)) (fun t => (t.txData.read 7, t.sendCursor, t.rspTrace)) =
      some (0xFF, 7, [⟨false, 0⟩]) := by decide

/-- T1. -/
theorem test_txfeature :
    after (exec (.txfeature 0x21) (fresh 0)) (fun t => (t.txFeature, t.rspTrace)) = some (0x21, [⟨true, 0⟩]) := by decide

/-- T8: the payload is cut at the blank byte, the cursor stays. -/
theorem test_txlenauto_cuts :
    after (exec .txlenauto { fresh 0 with txData := [(0, 1), (2, 2)], txLength := 3, sendCursor := 3 })
      (fun t => (t.txLength, t.sendCursor)) = some (1, 3) := by decide

/-- T12: no blank byte. -/
theorem test_txlenauto_full : after (exec .txlenauto (built 8)) (fun t => t.txLength) = some 8 := by decide

/-- T12: the frame, and the purge after it. -/
theorem test_txsend_full :
    after (exec .txsend (built 8)) (fun t => (t.txTrace, t.txLength, t.txData, t.sendCursor)) =
      some ([0xFF, 8, 0x22, 0x4E, 0x11, 0x11, 0x11, 0x11, 0x11, 0x11, 0x11, 0x11], 0, [], 0) := by decide

/-- V3: a sum of 0 gives a checksum of 0. -/
theorem test_txsend_purged : after (exec .txsend (fresh 0)) (fun t => t.txTrace) = some [0xFF, 0, 0, 0] := by decide

/-- T17: the shorthand overwrites index 0. -/
theorem test_txsendb :
    after (exec (.txsendb 0x21 0x05) { fresh 0 with txData := [(0, 9)], txLength := 1, sendCursor := 1 }) (fun t => t.txTrace) =
      some [0xFF, 1, 0x21, 0xD9, 5] := by decide

/-- T15: nothing is written, the Message is kept. -/
theorem test_txsendb_unconfigured :
    after (exec (.txsendb 0x21 0x05) State.reset) (fun t => (t.txTrace, t.txFeature, t.txLength, t.txData.read 0, t.rspTrace)) =
      some ([], 0x21, 1, 5, [⟨true, 0⟩]) := by decide

/-- T3. -/
theorem test_txsendw :
    after (exec (.txsendw 0x32 0x1234) (fresh 0)) (fun t => t.txTrace) = some [0xFF, 2, 0x32, 0x86, 0x12, 0x34] := by decide

/-- T9. -/
theorem test_txpurge :
    after (exec .txpurge (built 1)) (fun t => (t.txLength, t.sendCursor, t.txData)) = some (0, 0, []) := by decide

/-! ## Setting up and reading -/

/-- A7 and R241. -/
theorem test_nop_undefined :
    after (exec .nop (fresh 0)) (fun t => t.rspTrace) = some [⟨true, 0⟩] ∧
    after (exec .undefined (fresh 0)) (fun t => t.rspTrace) = some [⟨false, 0⟩] ∧
    after (exec (.rdreg 0x40) (fresh 0)) (fun t => t.rspTrace) = some [⟨false, 0⟩] := by decide

/-- H10: the largest interval and the one above it. -/
theorem test_connect_limit :
    after (exec .connect { State.reset with cfgHbInterval := 858993459, now := 7 })
      (fun t => (t.configured, t.hbInterval, t.lastMessageTime)) = some (true, 858993459, 7) ∧
    after (exec .connect { State.reset with cfgHbInterval := 858993460 }) (fun t => (t.configured, t.rspTrace)) =
      some (false, [⟨false, 0⟩]) := by decide

/-- A8. -/
theorem test_connect_again : after (exec .connect (fresh 0)) (fun t => t.rspTrace) = some [⟨false, 0⟩] := by decide

/-- A2 and A4: the first byte, and the end of the buffer. -/
theorem test_rxgetb :
    after (exec .rxgetb inFrame) (fun t => (t.rspTrace, t.receiveCursor)) = some ([⟨true, 0x12⟩], 1) ∧
    after (exec .rxgetb { inFrame with receiveCursor := 8 }) (fun t => (t.rspTrace, t.receiveCursor)) =
      some ([⟨false, 0⟩], 8) := by decide

/-- A3 (with the second byte still blank) and A4. -/
theorem test_rxgetw :
    after (exec .rxgetw inFrame) (fun t => (t.rspTrace, t.receiveCursor)) = some ([⟨true, 0x12FF⟩], 2) ∧
    after (exec .rxgetw { inFrame with receiveCursor := 7 }) (fun t => (t.rspTrace, t.receiveCursor)) =
      some ([⟨false, 0⟩], 7) := by decide

/-- A1: the receive Message, as far as it stands at position 4. -/
theorem test_rdreg_rx :
    after (exec .rdregRxLength inFrame) (fun t => t.rspTrace) = some [⟨true, 2⟩] ∧
    after (exec .rdregRxFeature inFrame) (fun t => t.rspTrace) = some [⟨true, 0x32⟩] ∧
    after (exec .rdregRxChecksum inFrame) (fun t => t.rspTrace) = some [⟨true, 0x86⟩] ∧
    after (exec .rdregRxFeatureset inFrame) (fun t => t.rspTrace) = some [⟨true, 0x30⟩] ∧
    after (exec .rdregReceivecursor { inFrame with receiveCursor := 3 }) (fun t => t.rspTrace) = some [⟨true, 3⟩] ∧
    after (exec .rdregReceivecount inFrame) (fun t => t.rspTrace) = some [⟨true, 4⟩] := by decide

/-- The send Message of T12 before its TXSEND. -/
theorem test_rdreg_tx :
    after (exec .rdregTxLength (built 7)) (fun t => t.rspTrace) = some [⟨true, 7⟩] ∧
    after (exec .rdregTxFeature (built 7)) (fun t => t.rspTrace) = some [⟨true, 0x22⟩] ∧
    after (exec .rdregTxChecksum (built 7)) (fun t => t.rspTrace) = some [⟨true, 0⟩] ∧
    after (exec .rdregTxFeatureset (built 7)) (fun t => t.rspTrace) = some [⟨true, 0x20⟩] ∧
    after (exec .rdregSendcursor { built 7 with sendCursor := 5 }) (fun t => t.rspTrace) = some [⟨true, 5⟩] := by decide

/-- R41: the flags bit by bit, the counters and the times. -/
theorem test_rdreg_link :
    after (exec .rdregStatus inFrame) (fun t => t.rspTrace) = some [⟨true, 3⟩] ∧
    after (exec .rdregStatus { fresh 0 with heartbeatDead := true }) (fun t => t.rspTrace) = some [⟨true, 5⟩] ∧
    after (exec .rdregFailedcount { fresh 0 with failedCount := 12 }) (fun t => t.rspTrace) = some [⟨true, 12⟩] ∧
    after (exec .rdregSuccesscount { fresh 0 with successCount := 2 }) (fun t => t.rspTrace) = some [⟨true, 2⟩] ∧
    after (exec .rdregHbInterval (beating 0)) (fun t => t.rspTrace) = some [⟨true, 1000⟩] ∧
    after (exec .rdregLastmessagetime { fresh 0 with lastMessageTime := 110 }) (fun t => t.rspTrace) = some [⟨true, 110⟩] ∧
    after (exec .rdregLastheartbeattime { fresh 0 with lastHeartbeatTime := 4004 }) (fun t => t.rspTrace) =
      some [⟨true, 4004⟩] := by decide

/-! ## Steps -/

/-- A table word placed for the fetch runs as the first instruction after reset: HELO, and TXFEATURE 0x21. -/
theorem test_step_runs_placed_word :
    after (step (State.reset.withFetchWord 16 0xFFFB)) (fun t => t.evTrace) = some [.onStatus 0xFB] ∧
    after (step (State.reset.withFetchWord 32 0x3210000)) (fun t => t.txFeature) = some 0x21 := by decide

/-- Q10: a link that is not configured reads nothing. -/
theorem test_step_unconfigured_reads_nothing :
    after (step { State.reset with rxq := [0xFF, 0xFB], inputs := [.receive] }) (fun t => (t.rxq, t.evTrace)) =
      some ([0xFF, 0xFB], []) := by decide

/-- R321: the reset event. -/
theorem test_step_reset :
    after (step { inFrame with rxq := [1], failedCount := 3, inputs := [.reset] })
      (fun t => (t.receiving, t.configured, t.acc, t.failedCount, t.rxq)) = some (false, false, 0, 0, [1]) := by decide

/-! ## Hypotheses that can be met: one theorem per statement that has any, each clause at a boundary value -/

/-- OpcodeMapIgnoresUnusedBits, its last clause: the selector after the first block of R41. -/
theorem test_met_opcode_map : ∀ r : Reg, r.selector ≠ 0x06 := by intro r; cases r <;> decide

/-- CommandWordsRoundTrip. -/
theorem test_met_command_words :
    (Instr.txsendw 0xFF 0xFFFF).wf .reference = true ∧ encode (.txsendw 0xFF 0xFFFF) = some (.command 0x9FFFFFF) := by decide

/-- WireBytesRoundTrip: a full buffer, and the least length that overflows. -/
theorem test_met_wire_bytes :
    (Instr.data 8 0x7F 0x55 [1, 2, 3, 4, 5, 6, 7, 8]).wf .reference = true ∧
    encode (.data 8 0x7F 0x55 [1, 2, 3, 4, 5, 6, 7, 8]) = some (.stream [0xFF, 8, 0x7F, 0x55, 1, 2, 3, 4, 5, 6, 7, 8]) ∧
    (Instr.dataOverflow 9).wf .reference = true ∧ encode (.dataOverflow 9) = some (.stream [0xFF, 9]) := by decide

/-- DecodedWireInstructionIsWellFormed. -/
theorem test_met_decoded_wire : decodeStream .reference false [0xFF, 0, 0, 0, 0xFE] = .instr (.data 0 0 0 []) [0xFE] := by
  decide

/-- StatusCodeOnlyAtPositionZero, EveryByteRefreshesLiveness and ReceivingLeavesSendSide: a status code and a length at
position 0, and a byte of the status range at position 1. -/
theorem test_met_rxbyte :
    (∃ t, exec (.rxbyte 0xF0) { fresh 10 with receiving := true } = .next t) ∧
    (∃ t, exec (.rxbyte 8) { fresh 10 with receiving := true } = .next t) ∧
    (∃ t, exec (.rxbyte 0xF0) { fresh 10 with receiving := true, receiveCount := 1, rxLength := 8, acc := 8 } = .next t) ∧
    (fresh 10).handlers = [] := ⟨⟨_, rfl⟩, ⟨_, rfl⟩, ⟨_, rfl⟩, rfl⟩

/-- MarkerOpensFrame, StrayByteIsCountedAndDiscarded, StrayBytesPurgeRefreshAndCount. -/
theorem test_met_idle :
    (fresh 10).receiving = false ∧ (fresh 10).configured = true ∧ (0xFE : Byte) ≠ 0xFF ∧
    ({ fresh 10 with rxq := [0x41, 0x00, 0xFE] } : State).rxq ≠ [] ∧
    ∀ b ∈ ({ fresh 10 with rxq := [0x41, 0x00, 0xFE] } : State).rxq, b ≠ 0xFF := by decide

/-- HeaderBytesAreStored: the bytes that are stored, each of the three positions. -/
theorem test_met_header_bytes :
    (∃ s : State, s.receiving = true ∧ s.receiveCount = 0 ∧ (8 : Byte).toNat ≤ s.cfg.cap) ∧
    (∃ s : State, s.receiving = true ∧ s.receiveCount = 1) ∧
    (∃ s : State, s.receiving = true ∧ s.receiveCount = 2 ∧ s.rxLength ≠ 0) :=
  ⟨⟨{ fresh 10 with receiving := true }, by decide⟩,
    ⟨{ fresh 10 with receiving := true, receiveCount := 1, rxLength := 1 }, by decide⟩,
    ⟨{ fresh 10 with receiving := true, receiveCount := 2, rxLength := 1 }, by decide⟩⟩

/-- HeaderBytesAreStored: the bytes that end a frame; the least and the largest overlong length, the least status code, and
the checksum byte of R3 and of R4. -/
theorem test_met_header_ends :
    (∃ s : State, s.receiving = true ∧ s.receiveCount = 0 ∧ s.handlers = [] ∧ s.cfg.cap < (9 : Byte).toNat ∧
      (9 : Byte) < 0xF0 ∧ s.cfg.cap < (0xEF : Byte).toNat ∧ (0xEF : Byte) < 0xF0 ∧ (0xF0 : Byte) ≤ 0xF0) ∧
    (∃ s : State, s.receiving = true ∧ s.receiveCount = 2 ∧ s.rxLength = 0 ∧ s.handlers = [] ∧
      s.acc + 0xF0 = 0 ∧ s.acc + 0xF1 ≠ 0) :=
  ⟨⟨{ fresh 10 with receiving := true }, by decide⟩,
    ⟨{ fresh 10 with receiving := true, receiveCount := 2, rxFeature := 0x10, acc := 0x10 }, by decide⟩⟩

/-- PayloadByteIsStored: the first payload byte, and the last but one of a full buffer. -/
theorem test_met_payload_byte :
    (∃ s : State, s.receiving = true ∧ s.rxData.wf = true ∧ s.receiveCount.toNat = 3 ∧
      s.receiveCount.toNat < s.rxLength.toNat + 2 ∧ s.rxLength.toNat ≤ s.cfg.cap) ∧
    (∃ s : State, s.receiving = true ∧ s.rxData.wf = true ∧ 3 ≤ s.receiveCount.toNat ∧
      s.receiveCount.toNat + 1 = s.rxLength.toNat + 2 ∧ s.rxLength.toNat = s.cfg.cap) :=
  ⟨⟨{ inFrame with receiveCount := 3, rxData := [] }, by decide⟩,
    ⟨{ inFrame with receiveCount := 9, rxLength := 8 }, by decide⟩⟩

/-- PayloadByteIsStored: the byte that ends a frame, with a sum of 0 and with another (R1, R6), and in a full buffer. -/
theorem test_met_payload_ends :
    (inFrame.receiving = true ∧ inFrame.rxData.wf = true ∧ 3 ≤ inFrame.receiveCount.toNat ∧
      inFrame.rxLength.toNat ≤ inFrame.cfg.cap ∧ inFrame.receiveCount.toNat = inFrame.rxLength.toNat + 2 ∧
      inFrame.handlers = [] ∧ inFrame.acc + 0x34 = 0 ∧ inFrame.acc + 0x35 ≠ 0) ∧
    (∃ s : State, s.receiving = true ∧ s.rxData.wf = true ∧ 3 ≤ s.receiveCount.toNat ∧ s.rxLength.toNat = s.cfg.cap ∧
      s.receiveCount.toNat = s.rxLength.toNat + 2) :=
  ⟨by decide, ⟨{ inFrame with receiveCount := 10, rxLength := 8 }, by decide⟩⟩

/-- ValidDataFrameIsDelivered: no payload and a full one; MismatchedDataFrameIsRejected and OverlongFrameIsRefused at both
ends of their ranges. -/
theorem test_met_frames :
    (fresh 10).configured = true ∧ (fresh 10).receiving = false ∧ (fresh 10).handlers = [] ∧
    (Instr.data 0 0x10 0xF0 []).wf (fresh 10).cfg = true ∧
    (Instr.data 8 0x7F 0x55 [1, 2, 3, 4, 5, 6, 7, 8]).wf (fresh 10).cfg = true ∧
    (Instr.dataMismatch 0 0x10 0xF1 []).wf (fresh 10).cfg = true ∧
    (Instr.dataMismatch 8 0x7F 0x56 [1, 2, 3, 4, 5, 6, 7, 8]).wf (fresh 10).cfg = true ∧
    (fresh 10).cfg.cap < (9 : Byte).toNat ∧ (9 : Byte) < 0xF0 ∧
    (fresh 10).cfg.cap < (0xEF : Byte).toNat ∧ (0xEF : Byte) < 0xF0 := by decide

/-- HandlersRunBeforeThePurge: a frame from IDLE, the last payload byte of one, its checksum byte where it has no payload,
and a status code at position 0. -/
theorem test_met_handlers :
    (∃ s : State, s.configured = true ∧ s.receiving = false ∧ s.handlers = [0xC000000, 0x9331235] :: [] ∧
      (Instr.data 2 0x32 0x86 [0x12, 0x34]).wf s.cfg = true) ∧
    (∃ s : State, s.handlers = [0xB000000] :: [] ∧ s.receiving = true ∧ s.rxData.wf = true ∧
      s.rxLength.toNat ≤ s.cfg.cap ∧ s.receiveCount.toNat = s.rxLength.toNat + 2 ∧ s.acc + 0x34 = 0) ∧
    (∃ s : State, s.handlers = [0xB000000] :: [] ∧ s.receiving = true ∧ s.rxData.wf = true ∧
      s.rxLength.toNat = 0 ∧ s.receiveCount.toNat = s.rxLength.toNat + 2 ∧ s.acc + 0xF0 = 0) ∧
    (∃ s : State, s.handlers = [0xB000000] :: [] ∧ s.receiving = true ∧ s.receiveCount = 0 ∧ (0xF0 : Byte) ≤ 0xF0) :=
  ⟨⟨{ fresh 10 with handlers := [[0xC000000, 0x9331235]] }, by decide⟩,
    ⟨{ inFrame with handlers := [[0xB000000]] }, by decide⟩,
    ⟨{ fresh 10 with receiving := true, receiveCount := 2, rxFeature := 0x10, acc := 0x10, handlers := [[0xB000000]] },
      by decide⟩,
    ⟨{ fresh 10 with receiving := true, handlers := [[0xB000000]] }, by decide⟩⟩

/-- SingleByteCorruptionIsRejected: the feature, and the last payload byte. -/
theorem test_met_corruption :
    (Instr.data 2 0x32 0x86 [0x12, 0x34]).wf (fresh 10).cfg = true ∧
    (0x33 :: 0x86 :: [0x12, 0x34] : List Byte) = (0x32 :: 0x86 :: [0x12, 0x34] : List Byte).set 0 0x33 ∧
    (0x33 :: 0x86 :: [0x12, 0x34] : List Byte) ≠ 0x32 :: 0x86 :: [0x12, 0x34] ∧
    (0x32 :: 0x86 :: [0x12, 0x35] : List Byte) = (0x32 :: 0x86 :: [0x12, 0x34] : List Byte).set 3 0x35 ∧
    (0x32 :: 0x86 :: [0x12, 0x35] : List Byte) ≠ 0x32 :: 0x86 :: [0x12, 0x34] := by decide

/-- CompensatingCorruptionPasses: R7 (+1 and -1 in the payload), and an exchange of the feature with the last payload
byte. -/
theorem test_met_compensating :
    (Instr.data 2 0x32 0x86 [0x12, 0x34]).wf .reference = true ∧ (2 : Nat) ≠ 3 ∧ (0 : Nat) ≠ 3 ∧
    (0x32 :: 0x86 :: [0x12, 0x34] : List Byte)[0]? = some 0x32 ∧
    (0x32 :: 0x86 :: [0x12, 0x34] : List Byte)[2]? = some 0x12 ∧
    (0x32 :: 0x86 :: [0x12, 0x34] : List Byte)[3]? = some 0x34 ∧
    (0x32 :: 0x86 :: [0x13, 0x33] : List Byte) =
      ((0x32 :: 0x86 :: [0x12, 0x34] : List Byte).set 2 (0x12 + 1)).set 3 (0x34 - 1) ∧
    (0x34 :: 0x86 :: [0x12, 0x32] : List Byte) = ((0x32 :: 0x86 :: [0x12, 0x34] : List Byte).set 0 0x34).set 3 0x32 ∧
    (fresh 10).cfg = .reference ∧ (fresh 10).configured = true ∧ (fresh 10).receiving = false ∧
    (fresh 10).handlers = [] := by decide

/-- SentFrameRoundTrips: the full Message of T12. -/
theorem test_met_round_trip :
    ∃ (a b a' : State) (wire : List Byte), a.configured = true ∧ a.txLength.toNat = a.cfg.cap ∧
      exec .txsend a = .next a' ∧ a'.txTrace = a.txTrace ++ wire ∧
      b.configured = true ∧ b.receiving = false ∧ b.handlers = [] ∧ b.cfg.cap = a.cfg.cap ∧ b.rxq = wire :=
  ⟨built 8, { fresh 20 with rxq := [0xFF, 8, 0x22, 0x4E, 0x11, 0x11, 0x11, 0x11, 0x11, 0x11, 0x11, 0x11] }, _,
    [0xFF, 8, 0x22, 0x4E, 0x11, 0x11, 0x11, 0x11, 0x11, 0x11, 0x11, 0x11],
    rfl, rfl, rfl, by decide, rfl, rfl, rfl, rfl, rfl⟩

/-- WireInstructionsAreTheirBytes: in IDLE and inside a frame. -/
theorem test_met_wire_instructions :
    decodeStream (fresh 10).cfg (fresh 10).receiving [0xFF, 0xFB, 0x41] = .instr .helo [0x41] ∧
    decodeStream inFrame.cfg inFrame.receiving [0x34, 0xFF] = .instr (.rxbyte 0x34) [0xFF] := by decide

/-- CountersCountErrorsAndMessages: a byte that raises OnMessage, one that raises an error, one that raises OnStatus. -/
theorem test_met_counters :
    (∃ t, exec (.rxbyte 0x34) inFrame = .next t) ∧ (∃ t, exec (.rxbyte 0x35) inFrame = .next t) ∧
    (∃ t, exec (.rxbyte 0xFB) { fresh 10 with receiving := true } = .next t) := ⟨⟨_, rfl⟩, ⟨_, rfl⟩, ⟨_, rfl⟩⟩

/-- ReceiveErrorsEndIdle: each error a byte raises, and the timeout. -/
theorem test_met_receive_errors :
    (errorOfByte 0x35 inFrame = some .checksumMismatch ∧ ∃ t, exec (.rxbyte 0x35) inFrame = .next t) ∧
    (errorOfByte 0xFE (fresh 10) = some .framingViolation ∧ ∃ t, exec (.rxbyte 0xFE) (fresh 10) = .next t) ∧
    (errorOfByte 9 { fresh 10 with receiving := true } = some .bufferOverflow ∧
      ∃ t, exec (.rxbyte 9) { fresh 10 with receiving := true } = .next t) ∧
    (errorOfTimeout { inFrame with now := 101 } = some .frameTimeout ∧
      ∃ t, exec .timeoutchk { inFrame with now := 101 } = .next t) :=
  ⟨⟨by decide, _, rfl⟩, ⟨by decide, _, rfl⟩, ⟨by decide, _, rfl⟩, ⟨by decide, _, rfl⟩⟩

/-- EveryWayToIdlePurges: a byte, and a timeout. -/
theorem test_met_every_way :
    (∃ t, exec (.rxbyte 0x34) inFrame = .next t ∧ t.receiving = false) ∧
    (inFrame.receiving = true ∧ ∃ t, exec .timeoutchk { inFrame with now := 101 } = .next t ∧ t.receiving = false) :=
  ⟨⟨_, rfl, rfl⟩, rfl, _, rfl, rfl⟩

/-- FrameTimeoutIsStrict: one past the limit, and the limit. -/
theorem test_met_timeout :
    (∃ s : State, s.configured = true ∧ s.receiving = true ∧ timeDiff s.cfg s.now s.lastMessageTime = s.cfg.timeoutMs + 1) ∧
    (∃ s : State, s.configured = true ∧ s.receiving = true ∧ timeDiff s.cfg s.now s.lastMessageTime = s.cfg.timeoutMs) :=
  ⟨⟨{ inFrame with now := 101 }, by decide⟩, ⟨{ inFrame with now := 100 }, by decide⟩⟩

/-- HeartbeatTickSendsAndMarks: each reason to do nothing, and the tests on both sides of their limits. -/
theorem test_met_heartbeat :
    (fresh 0).hbInterval = 0 ∧ State.reset.configured = false ∧
    ({ beating 5001 with heartbeatDead := true } : State).heartbeatDead = true ∧
    (beating 1001).hbInterval ≠ 0 ∧ (beating 1001).configured = true ∧ (beating 1001).heartbeatDead = false ∧
    timeDiff (beating 1001).cfg (beating 1001).now (beating 1001).lastMessageTime = 1001 ∧
    timeDiff (beating 1000).cfg (beating 1000).now (beating 1000).lastMessageTime = 1000 ∧
    timeDiff (beating 5000).cfg (beating 5000).now (beating 5000).lastMessageTime = 5 * 1000 ∧
    timeDiff (beating 5001).cfg (beating 5001).now (beating 5001).lastMessageTime = 5 * 1000 + 1 := by decide

/-- PollIsDrainTimeoutHeartbeat: its three clauses. -/
theorem test_met_poll :
    (fresh 10).configured = true ∧ ({ fresh 10 with rxq := [0xFF] } : State).rxq ≠ [] ∧ State.reset.configured = false := by
  decide

/-- TxbyteAppends: room for one byte; TxwordAppendsBigEndian and TxwordIsTwoTxbytes: room for two. -/
theorem test_met_appends :
    (built 7).txData.wf = true ∧ (built 7).sendCursor.toNat + 1 = (built 7).cfg.cap ∧
    (built 6).txData.wf = true ∧ (built 6).sendCursor.toNat + 2 = (built 6).cfg.cap := by decide

/-- TxsendEmitsFrame: a full Message; TxsendbBuildsAndSends and TxsendwBuildsAndSends, configured, not configured, and with
a buffer of one byte. -/
theorem test_met_sends :
    (built 8).configured = true ∧ (built 8).txLength.toNat = (built 8).cfg.cap ∧ (built 8).txData.wf = true ∧
    2 ≤ (built 8).cfg.cap ∧ State.reset.configured = false ∧ State.reset.txData.wf = true ∧ 2 ≤ State.reset.cfg.cap ∧
    (State.resetWith oneByte).txData.wf = true ∧ (State.resetWith oneByte).cfg.cap < 2 := by decide

/-- A Message purged as after reset. -/
theorem test_met_tx_purged : TxPurged (fresh 0) := ⟨rfl, rfl, rfl, fun _ => rfl, rfl⟩

/-- ShorthandSendsWhatTheBuildSends and TxpurgeClearsSendMessage. -/
theorem test_met_shorthand :
    (fresh 0).configured = true ∧ TxPurged (fresh 0) ∧ 2 ≤ (fresh 0).cfg.cap ∧ ∃ t, exec .txsend (fresh 0) = .next t :=
  ⟨rfl, test_met_tx_purged, by decide, _, rfl⟩

/-- IdempotentCommands: each of the four. -/
theorem test_met_idempotent :
    (∃ t, exec .nop (built 3) = .next t) ∧ (∃ t, exec (.txfeature 9) (built 3) = .next t) ∧
    (∃ t, exec .txlenauto (built 3) = .next t) ∧ (∃ t, exec .txpurge (built 3) = .next t) :=
  ⟨⟨_, rfl⟩, ⟨_, rfl⟩, ⟨_, rfl⟩, ⟨_, rfl⟩⟩

/-- NopAndUndefinedChangeNothing: a selector after each block of R41. -/
theorem test_met_selectors :
    ∀ sel ∈ ([0x06, 0x15, 0x23, 0x33, 0xFF] : List Byte),
      sel ∉ ([0x00, 0x01, 0x02, 0x03, 0x04, 0x05, 0x10, 0x11, 0x12, 0x13, 0x14, 0x20, 0x21, 0x22,
        0x30, 0x31, 0x32] : List Byte) := by decide

/-- ConnectConfiguresOnce: the largest interval, the one above it, and a configured link. -/
theorem test_met_connect :
    (∃ s : State, s.configured = false ∧ s.cfgHbInterval = (2 ^ s.cfg.clockWidth - 1) / 5) ∧
    (∃ s : State, s.configured = false ∧ (2 ^ s.cfg.clockWidth - 1) / 5 + 1 = s.cfgHbInterval) ∧
    (fresh 0).configured = true :=
  ⟨⟨{ State.reset with cfgHbInterval := 858993459 }, by decide⟩, ⟨{ State.reset with cfgHbInterval := 858993460 }, by decide⟩,
    rfl⟩

/-- ReceiveReadsAdvanceTheCursor: the last byte, the end, and a word at each side of its limit. -/
theorem test_met_receive_reads :
    (∃ s : State, s.receiveCursor.toNat + 1 = s.cfg.cap ∧ s.cfg.cap < s.receiveCursor.toNat + 2) ∧
    (∃ s : State, s.cfg.cap < s.receiveCursor.toNat + 1) ∧ (∃ s : State, s.receiveCursor.toNat + 2 = s.cfg.cap) :=
  ⟨⟨{ inFrame with receiveCursor := 7 }, by decide⟩, ⟨{ inFrame with receiveCursor := 8 }, by decide⟩,
    ⟨{ inFrame with receiveCursor := 6 }, by decide⟩⟩

/-- HostSideErrorsAreContained: each command that raises one. -/
theorem test_met_host_errors :
    errorOfCommand (.txbyte 1) (built 8) = some .bufferOverflow ∧ errorOfCommand (.txword 1) (built 7) = some .bufferOverflow ∧
    errorOfCommand .rxgetb { inFrame with receiveCursor := 8 } = some .bufferOverflow ∧
    errorOfCommand .rxgetw { inFrame with receiveCursor := 7 } = some .bufferOverflow ∧
    errorOfCommand (.txsendw 1 1) (State.resetWith oneByte) = some .bufferOverflow ∧
    errorOfCommand .txsend State.reset = some .linkNotConfigured ∧
    errorOfCommand (.txsendb 1 1) State.reset = some .linkNotConfigured ∧
    errorOfCommand (.txsendw 1 1) State.reset = some .linkNotConfigured ∧ State.reset.configured = false := by decide

/-- HostCommandsLeaveTheFrame and HandlerCommandsKeepTheirRules. -/
theorem test_met_host_commands :
    Command.rxgetb ≠ .poll ∧ (∃ t, exec (.ofCommand .rxgetb) inFrame = .next t) ∧
    Command.connect ≠ .poll ∧ (∃ t, exec (.ofCommand .connect) State.reset = .next t) :=
  ⟨by decide, ⟨_, rfl⟩, by decide, _, rfl⟩

/-- StepRunsTheDecodedInstruction, EnvironmentChangesInputsOnly, ResetEventForgetsTheFrame: the inputs they name. -/
theorem test_met_inputs :
    (∃ s : State, s.inputs = .command 0x8210005 :: [] ∧ decodeCommand 0x8210005 = .txsendb 0x21 0x05) ∧
    (∃ s : State, s.inputs = .receive :: [] ∧ s.configured = true ∧
      decodeStream s.cfg s.receiving s.rxq = .instr .helo []) ∧
    (∃ s : State, s.inputs = .receive :: [] ∧ s.configured = false) ∧
    (∃ s : State, s.inputs = .receive :: [] ∧ s.configured = true ∧ s.rxq = []) ∧
    (∃ s : State, s.inputs = .reset :: [.timeoutchk, .hbtick] ∧ s.receiving = true) :=
  ⟨⟨{ fresh 0 with inputs := [.command 0x8210005] }, by decide⟩,
    ⟨{ fresh 0 with rxq := [0xFF, 0xFB], inputs := [.receive] }, by decide⟩,
    ⟨{ State.reset with inputs := [.receive] }, by decide⟩, ⟨{ fresh 0 with inputs := [.receive] }, by decide⟩,
    ⟨{ inFrame with inputs := [.reset, .timeoutchk, .hbtick] }, by decide⟩⟩

/-- A frame half received, a Message half built, a handler waiting and the frame's last byte in the queue. -/
def busy : State :=
  { inFrame with
    txData := [(0, 1), (2, 2)], txLength := 3, sendCursor := 3, txFeature := 0x40
    hbInterval := 1000, now := 60, failedCount := 2, rxq := [0x34], rspTrace := [⟨true, 0⟩]
    handlers := [[0xC000000, 0x9331235]], inputs := [.receive] }

/-- StepKeepsInvariant, StepNeverStops, EveryInstructionCompletes: the invariant holds in the middle of the work. -/
theorem test_met_invariant : Inv busy ∧ handlersLegal busy := by
  refine ⟨⟨⟨by decide, by decide, by decide, ⟨by decide, by decide⟩⟩, ⟨by decide, by decide, ⟨by decide, by decide⟩, by decide,
    by decide, by decide, by decide, by decide, fun i h => ?_, by decide⟩,
    ⟨by decide, by decide, by decide, by decide, by decide, by decide, by decide, fun r h => ?_⟩, by decide⟩, fun h hm => ?_⟩
  · have h' : (4 : Nat) ≤ i + 3 := h
    show Memory.read [(0, 0x12)] i = BLANK
    simp [Memory.read, show 0 ≠ i by omega]
  · obtain rfl : r = ⟨true, 0⟩ := by simpa [busy] using h
    decide
  · obtain rfl : h = [0xC000000, 0x9331235] := by simpa [busy] using hm
    intro w hw
    fin_cases hw <;> decide

/-- StepKeepsInvariant and TracesOnlyGrow: that state steps. -/
theorem test_met_step : ∃ t, step busy = .next t := ⟨_, rfl⟩

/-- A Message half built, and a handler that reads a byte and then polls. -/
def pollingHost : State :=
  { busy with
    receiving := false, rxLength := 0, rxFeature := 0, rxChecksum := 0, rxData := [], receiveCount := 0, acc := 0
    handlers := [[0xB000000, 0x2000000]] }

/-- PollInHandlerIsTheOnlyRefusal, the clause under the invariant: a POLL that is not the first command. -/
theorem test_met_refusal_later :
    Inv pollingHost ∧ pollingHost.receiving = false ∧ pollingHost.handlers = [0xB000000, 0x2000000] :: [] ∧
    (∃ w ∈ ([0xB000000, 0x2000000] : List CmdWord), commandOf w = .poll) ∧
    (Instr.data 2 0x32 0x86 [0x12, 0x34]).wf pollingHost.cfg = true := by
  refine ⟨⟨⟨by decide, by decide, by decide, ⟨by decide, by decide⟩⟩, ⟨by decide, by decide, ⟨by decide, by decide⟩, by decide,
    by decide, by decide, by decide, by decide, fun _ _ => rfl, by decide⟩, ?_, by decide⟩, rfl, rfl, ⟨0x2000000, by decide⟩, by decide⟩
  refine ⟨by decide, by decide, by decide, by decide, by decide, by decide, by decide, fun r h => ?_⟩
  obtain rfl : r = ⟨true, 0⟩ := by simpa [pollingHost, busy] using h
  decide

/-- PollInHandlerIsTheOnlyRefusal: the clause of a first command, and a refused step. -/
theorem test_met_refusal :
    (∃ (s : State) (h : List CmdWord), s.receiving = false ∧ s.handlers = (0x2000000 :: h) :: [] ∧
      commandOf 0x2000000 = .poll ∧ (Instr.data 2 0x32 0x86 [0x12, 0x34]).wf s.cfg = true) ∧
    refusal (step { fresh 10 with rxq := [0xFF, 0xF0], handlers := [[0x2000000]], inputs := [.command 0x2000000] }) =
      some .pollInHandler :=
  ⟨⟨{ fresh 10 with handlers := [[0x2000000, 0xB000000]] }, [0xB000000], by decide⟩, by decide⟩

/-- OnlyConnectConfigures: a CONNECT, and a reset. -/
theorem test_met_configures :
    (∃ t, step { State.reset with inputs := [.command 0x1000000] } = .next t ∧ t.configured = true) ∧
    (∃ t, step { fresh 0 with inputs := [.reset] } = .next t ∧ t.configured = false) := ⟨⟨_, rfl, rfl⟩, _, rfl, rfl⟩

end Sys2Proof.Tests
end

