-- ==== Sys2Proof/Proofs/Step.lean ====
section
/-! What a step does with the head of the inputs (00_scope.md R15, 44_host.md R240). -/

namespace Sys2Proof.Machine

theorem fetch_cons {s : State} {x : Input} {rest : List Input} (h : s.inputs = x :: rest) :
    fetch s = takeInput x { s with inputs := rest } := by
  simp only [fetch, h]

theorem step_of_fetch_run {s t : State} {i : Instr} (h : fetch s = .run i t) : step s = exec i t := by
  simp only [step, h]

/-- An input that brings an instruction runs it, in the state the input leaves. -/
theorem step_of_takeInput_run {s t : State} {x : Input} {rest : List Input} {i : Instr} (h : s.inputs = x :: rest)
    (hx : takeInput x { s with inputs := rest } = .run i t) : step s = exec i t :=
  step_of_fetch_run ((fetch_cons h).trans hx)

/-- A configured link reads the instruction at the head of the RX queue and leaves the bytes after it (R30, R243). -/
theorem fetchWire_of_instr {s : State} {i : Instr} {more : List Byte} (hc : s.configured = true)
    (hd : decodeStream s.cfg s.receiving s.rxq = .instr i more) : fetchWire s = .run i { s with rxq := more } := by
  simp only [fetchWire, hc, hd, if_true]

/-- Settles O50: each of the four inputs brings its instruction to `exec`. A command word and the two timer steps do so in
the state without that input; a receive also takes the instruction's bytes off the queue. -/
theorem stepRunsTheDecodedInstruction : Obligations.StepRunsTheDecodedInstruction := by
  unfold Obligations.StepRunsTheDecodedInstruction
  refine ⟨fun s i w rest h hw => ?command, fun s i more rest h hc hd => ?receive, fun s rest h => ?timeoutchk,
    fun s rest h => ?hbtick⟩
  case command => exact step_of_takeInput_run h (congrArg (Fetched.run · _) hw)
  case receive => exact step_of_takeInput_run h (fetchWire_of_instr (s := { s with inputs := rest }) hc hd)
  case timeoutchk => exact step_of_takeInput_run h rfl
  case hbtick => exact step_of_takeInput_run h rfl

end Sys2Proof.Machine
end

