-- ==== Sys2Proof/Proofs/State.lean ====
section
/-! The state over time (10_state.md): what a host command, a byte, an instruction and a step can do, said once each, and
from that the invariant, the traces, the link flag, the counters, the handlers and the register reads. -/

namespace Sys2Proof

theorem Config.lt_response_of_lt_half (c : Config) {n : Nat} (h : n < 2 ^ 16) : n < 2 ^ c.responseWidth :=
  h.trans_le (Nat.pow_le_pow_right (by decide) (le_max_left _ _))

theorem Config.lt_response_of_lt_clock (c : Config) {n : Nat} (h : n < 2 ^ c.clockWidth) : n < 2 ^ c.responseWidth :=
  h.trans_le (Nat.pow_le_pow_right (by decide) ((le_max_left _ _).trans (le_max_right _ _)))

theorem Config.lt_response_of_lt_counter (c : Config) {n : Nat} (h : n < 2 ^ c.counterWidth) : n < 2 ^ c.responseWidth :=
  h.trans_le (Nat.pow_le_pow_right (by decide) ((le_max_right _ _).trans (le_max_right _ _)))

theorem Config.byte_lt_response (c : Config) (b : Byte) : b.toNat < 2 ^ c.responseWidth :=
  c.lt_response_of_lt_half (b.isLt.trans (by decide))

theorem Reg.ofSelector_selector (r : Reg) : Reg.ofSelector r.selector = some r := by cases r <;> rfl

end Sys2Proof

namespace Sys2Proof.Machine

/-! ## What a host command other than CONNECT answers -/

/-- `t` differs from `s` in what a host command other than CONNECT and POLL may change: the send side, the receive cursor,
the TX stream and the responses (R79, R190, R294). -/
def HostFrame (s t : State) : Prop :=
  t = { s.withTx t with receiveCursor := t.receiveCursor, txTrace := t.txTrace, rspTrace := t.rspTrace }

theorem HostFrame.trans {s t u : State} (h : HostFrame s t) (g : HostFrame t u) : HostFrame s u :=
  Eq.trans g (congrArg (fun v : State => { v.withTx u with
    receiveCursor := u.receiveCursor, txTrace := u.txTrace, rspTrace := u.rspTrace }) h)

/-- A completed host command: its frame, and one answer whose data fits the response port (R101) in a state whose
registers keep their widths. -/
structure Answered (s t : State) : Prop where
  frame : HostFrame s t
  response : ∃ r, t.rspTrace = s.rspTrace ++ [r] ∧ (WidthInv s → r.data < 2 ^ s.cfg.responseWidth)

/-- The largest legal interval is a W-bit value (R228). -/
theorem hbLimit_lt (c : Config) : hbLimit c < 2 ^ c.clockWidth :=
  (Nat.div_le_self _ _).trans_lt (Nat.sub_lt (Nat.two_pow_pos _) Nat.one_pos)

theorem statusFlags_lt (s : State) : statusFlags s < 8 := by
  have h1 := Bool.toNat_le s.configured
  have h2 := Bool.toNat_le s.receiving
  have h3 := Bool.toNat_le s.heartbeatDead
  unfold statusFlags
  omega

/-- Every register fits the response port (R41, R101). -/
theorem readReg_lt {s : State} (h : WidthInv s) (r : Reg) : readReg r s < 2 ^ s.cfg.responseWidth := by
  cases r
  case status => exact s.cfg.lt_response_of_lt_half ((statusFlags_lt s).trans (by decide))
  case failedCount => exact s.cfg.lt_response_of_lt_counter h.failed
  case successCount => exact s.cfg.lt_response_of_lt_counter h.success
  case hbInterval => exact s.cfg.lt_response_of_lt_clock (h.interval.trans_lt (hbLimit_lt _))
  case lastMessageTime => exact s.cfg.lt_response_of_lt_clock h.message
  case lastHeartbeatTime => exact s.cfg.lt_response_of_lt_clock h.heartbeat
  all_goals exact s.cfg.byte_lt_response _

theorem accept_answered {v : Nat} {s u t : State} (e : accept v u = .next t) (hu : HostFrame s u)
    (hr : u.rspTrace = s.rspTrace) (hv : WidthInv s → v < 2 ^ s.cfg.responseWidth) : Answered s t := by
  cases e
  exact ⟨congrArg (answer ⟨true, v⟩) hu, ⟨true, v⟩, congrArg (· ++ [_]) hr, hv⟩

theorem accept_zero_answered {s u t : State} (e : accept 0 u = .next t) (hu : HostFrame s u)
    (hr : u.rspTrace = s.rspTrace) : Answered s t :=
  accept_answered e hu hr fun _ => Nat.two_pow_pos _

theorem reject_answered {s t : State} (e : reject s = .next t) : Answered s t := by
  cases e
  exact ⟨rfl, ⟨false, 0⟩, rfl, fun _ => Nat.two_pow_pos _⟩

theorem answerReg_answered {r : Reg} {s t : State} (e : answerReg r s = .next t) : Answered s t :=
  accept_answered e rfl rfl fun h => readReg_lt h r

/-- The commands that move a cursor: rejected past the end of the buffer, otherwise one access and an answer of at most a
word. -/
theorem bounded_answered {α : Type} {p : Prop} [Decidable p] {o : Option α} {v : α → Nat} {f : α → State} {s t : State}
    (e : (if p then reject s else orFault o fun x => accept (v x) (f x)) = .next t)
    (hf : ∀ x, HostFrame s (f x) ∧ (f x).rspTrace = s.rspTrace) (hv : ∀ x, v x < 2 ^ 16) : Answered s t := by
  split at e
  · exact reject_answered e
  · obtain ⟨x, -, e⟩ := orFault_eq_next.1 e
    exact accept_answered e (hf x).1 (hf x).2 fun _ => s.cfg.lt_response_of_lt_half (hv x)

theorem sendMessage_answered {s u t : State} (e : sendMessage u = .next t) (hu : HostFrame s u)
    (hr : u.rspTrace = s.rspTrace) : Answered s t := by
  unfold sendMessage at e
  split at e
  · obtain ⟨v, hv, e⟩ := andThen_eq_next.1 e
    obtain ⟨p, -, hv⟩ := orFault_eq_next.1 hv
    cases hv
    exact accept_zero_answered e (hu.trans rfl) hr
  · exact accept_zero_answered e hu hr

/-- Every host command but CONNECT and POLL answers once and changes its own frame only. -/
theorem handlerCommand_answered {c : Command} (hc : c ≠ .connect) {s t : State} (e : handlerCommand c s = .next t) :
    Answered s t := by
  cases c
  case connect => exact absurd rfl hc
  case poll => cases e
  case nop => exact accept_zero_answered e rfl rfl
  case txfeature f => exact accept_zero_answered e rfl rfl
  case txbyte v => exact bounded_answered e (fun _ => ⟨rfl, rfl⟩) (fun _ => by decide)
  case txword w => exact bounded_answered e (fun _ => ⟨rfl, rfl⟩) (fun _ => by decide)
  case txlenauto => exact accept_zero_answered e rfl rfl
  case txsend => exact sendMessage_answered e rfl rfl
  case txsendb f v =>
    obtain ⟨m, -, e⟩ := orFault_eq_next.1 e
    exact sendMessage_answered e rfl rfl
  case txsendw f w =>
    simp only [handlerCommand, execTxsendw] at e
    split at e
    · exact reject_answered e
    · obtain ⟨m, -, e⟩ := orFault_eq_next.1 e
      exact sendMessage_answered e rfl rfl
  case txpurge => exact accept_zero_answered e rfl rfl
  case rxgetb => exact bounded_answered e (fun _ => ⟨rfl, rfl⟩) (fun v => v.isLt.trans (by decide))
  case rxgetw => exact bounded_answered e (fun _ => ⟨rfl, rfl⟩) (fun w => w.isLt)
  case rdreg sel =>
    simp only [handlerCommand, execRdreg] at e
    split at e
    · exact answerReg_answered e
    · exact reject_answered e
  case isalive =>
    refine accept_answered e rfl rfl fun _ => s.cfg.lt_response_of_lt_half ?_
    exact (Bool.toNat_lt (linkAlive s)).trans (by decide)
  case undefined => exact reject_answered e

/-- CONNECT answers once, and either changes nothing else or configures the link (R242). -/
theorem execConnect_cases {s t : State} (e : execConnect s = .next t) :
    t = answer ⟨false, 0⟩ s ∨
    (s.configured = false ∧ s.cfgHbInterval ≤ hbLimit s.cfg ∧
      t = answer ⟨true, 0⟩ { s with
        hbInterval := s.cfgHbInterval, lastMessageTime := s.now, lastHeartbeatTime := s.now
        heartbeatDead := false, configured := true }) := by
  unfold execConnect at e
  split at e
  · cases e; exact .inl rfl
  · rename_i hc
    split at e
    · cases e; exact .inl rfl
    · rename_i hl
      cases e
      exact .inr ⟨by simpa using hc, Nat.le_of_not_lt hl, rfl⟩

/-! ## What an instruction brings to the machine -/

/-- What an instruction makes the block do: consume bytes, run a host command, or run a micro-step of POLL or POLL itself
(00_scope.md R4, R15). -/
inductive Action where
  | bytes (bs : List Byte)
  | host (c : Command)
  | poll
  | timeoutCheck
  | heartbeatTick

def Action.run : Action → State → Result
  | .bytes bs, s => feed bs s
  | .host c, s => handlerCommand c s
  | .poll, s => execPoll s
  | .timeoutCheck, s => .next (Machine.timeoutCheck s)
  | .heartbeatTick, s => .next (Machine.heartbeatTick s)

/-- The action of each row of the opcode table. -/
def Action.ofInstr : Instr → Action
  | .data l f k p | .dataMismatch l f k p => .bytes (dataBytes l f k p)
  | .dataOverflow l => .bytes [MARKER, l]
  | .status c | .ack c | .nack c | .fail c | .statusReserved c => .bytes (statusBytes (statusCode c))
  | .helo => .bytes (statusBytes ST_HELO)
  | .stray b | .rxbyte b => .bytes [b]
  | .marker => .bytes [MARKER]
  | .nop => .host .nop
  | .connect => .host .connect
  | .poll => .poll
  | .txfeature f => .host (.txfeature f)
  | .txbyte v => .host (.txbyte v)
  | .txword w => .host (.txword w)
  | .txlenauto => .host .txlenauto
  | .txsend => .host .txsend
  | .txsendb f v => .host (.txsendb f v)
  | .txsendw f w => .host (.txsendw f w)
  | .txpurge => .host .txpurge
  | .rxgetb => .host .rxgetb
  | .rxgetw => .host .rxgetw
  | .rdreg sel => .host (.rdreg sel)
  | .rdregRxLength => .host (.rdreg Reg.rxLength.selector)
  | .rdregRxFeature => .host (.rdreg Reg.rxFeature.selector)
  | .rdregRxChecksum => .host (.rdreg Reg.rxChecksum.selector)
  | .rdregRxFeatureset => .host (.rdreg Reg.rxFeatureSet.selector)
  | .rdregReceivecursor => .host (.rdreg Reg.receiveCursor.selector)
  | .rdregReceivecount => .host (.rdreg Reg.receiveCount.selector)
  | .rdregTxLength => .host (.rdreg Reg.txLength.selector)
  | .rdregTxFeature => .host (.rdreg Reg.txFeature.selector)
  | .rdregTxChecksum => .host (.rdreg Reg.txChecksum.selector)
  | .rdregTxFeatureset => .host (.rdreg Reg.txFeatureSet.selector)
  | .rdregSendcursor => .host (.rdreg Reg.sendCursor.selector)
  | .rdregStatus => .host (.rdreg Reg.status.selector)
  | .rdregFailedcount => .host (.rdreg Reg.failedCount.selector)
  | .rdregSuccesscount => .host (.rdreg Reg.successCount.selector)
  | .rdregHbInterval => .host (.rdreg Reg.hbInterval.selector)
  | .rdregLastmessagetime => .host (.rdreg Reg.lastMessageTime.selector)
  | .rdregLastheartbeattime => .host (.rdreg Reg.lastHeartbeatTime.selector)
  | .isalive => .host .isalive
  | .undefined => .host .undefined
  | .timeoutchk => .timeoutCheck
  | .hbtick => .heartbeatTick

/-- The meaning of an instruction is the run of its action. -/
theorem exec_eq_run (i : Instr) (s : State) : exec i s = (Action.ofInstr i).run s := by
  cases i
  case rxbyte b => exact (feed_singleton b s).symm
  all_goals rfl

/-- A command presented by the host acts as inside a handler, but for POLL (R248). -/
theorem exec_ofCommand {c : Command} (hc : c ≠ .poll) (s : State) : exec (.ofCommand c) s = handlerCommand c s := by
  cases c
  case poll => exact absurd rfl hc
  case rdreg sel =>
    cases h : Reg.ofSelector sel with
    | some r =>
      have hi : Instr.ofCommand (.rdreg sel) = r.instr := by simp only [Instr.ofCommand, h]
      rw [hi, handlerCommand_rdreg_instr]
      simp only [handlerCommand, execRdreg, h]
    | none =>
      have hi : Instr.ofCommand (.rdreg sel) = .rdreg sel := by simp only [Instr.ofCommand, h]
      rw [hi]
      rfl
  all_goals rfl

/-! ## What no instruction undoes -/

/-- What every instruction keeps: the configuration, the traces but for what it appends, and a configured link. -/
structure Keeps (s t : State) : Prop where
  cfg : t.cfg = s.cfg
  sent : s.txTrace <+: t.txTrace
  events : s.evTrace <+: t.evTrace
  answered : s.rspTrace <+: t.rspTrace
  configured : s.configured = true → t.configured = true

theorem Keeps.trans {s t u : State} (h : Keeps s t) (g : Keeps t u) : Keeps s u where
  cfg := g.cfg.trans h.cfg
  sent := h.sent.trans g.sent
  events := h.events.trans g.events
  answered := h.answered.trans g.answered
  configured := g.configured ∘ h.configured

theorem StreamEffect.keeps {s t : State} (h : StreamEffect s t) : Keeps s t where
  cfg := h.cfg
  sent := h.sent
  events := h.events
  answered := h.answered
  configured := fun hc => by
    rcases h.link with ⟨-, -, hl⟩ | ⟨-, -, -, -, hl⟩
    · exact hl.trans hc
    · exact hl

theorem keeps_answer (r : Response) (s : State) : Keeps s (answer r s) :=
  ⟨rfl, List.prefix_rfl, List.prefix_rfl, List.prefix_append _ _, id⟩

theorem keeps_queue (q : List Byte) (s : State) : Keeps s { s with rxq := q } :=
  ⟨rfl, List.prefix_rfl, List.prefix_rfl, List.prefix_rfl, id⟩

theorem configured_of_timeoutExpired {s : State} (h : timeoutExpired s = true) : s.configured = true := by
  simp only [timeoutExpired, Bool.and_eq_true] at h
  obtain ⟨⟨hc, -⟩, -⟩ := h
  exact hc

theorem configured_of_heartbeatActive {s : State} (h : heartbeatActive s = true) : s.configured = true := by
  simp only [heartbeatActive, Bool.and_eq_true] at h
  obtain ⟨⟨-, hc⟩, -⟩ := h
  exact hc

theorem timeoutCheck_stream (s : State) : StreamEffect s (timeoutCheck s) := by
  unfold timeoutCheck
  split
  · exact (purgeRx_stream s).trans (sendStatus_stream _ _)
  · exact .refl s

theorem timeoutCheck_configured (s : State) : (timeoutCheck s).configured = s.configured := by
  unfold timeoutCheck
  split
  · simp
  · rfl

/-- What HBTICK can change (R221 to R224): a HELO and its stamp, and the dead mark of a configured link. -/
structure TickEffect (s t : State) : Prop where
  frame : t = { s with
    txTrace := t.txTrace, lastHeartbeatTime := t.lastHeartbeatTime, heartbeatDead := t.heartbeatDead }
  sent : s.txTrace <+: t.txTrace
  stamp : t.lastHeartbeatTime = s.lastHeartbeatTime ∨ t.lastHeartbeatTime = s.now
  dead : t.heartbeatDead = s.heartbeatDead ∨ s.configured = true

theorem heloTick_effect (e : Nat) (s : State) : TickEffect s (heloTick e s) := by
  unfold heloTick
  split
  · rw [sendStatus_eq]
    exact ⟨rfl, List.prefix_append _ _, .inr rfl, .inl rfl⟩
  · exact ⟨rfl, List.prefix_rfl, .inl rfl, .inl rfl⟩

theorem heartbeatTick_effect (s : State) : TickEffect s (heartbeatTick s) := by
  unfold heartbeatTick
  split
  · rename_i ha
    have h := heloTick_effect (silence s) s
    unfold deadTick
    split
    · exact ⟨congrArg (fun u : State => { u with heartbeatDead := true }) h.frame, h.sent, h.stamp,
        .inr (configured_of_heartbeatActive ha)⟩
    · exact h
  · exact ⟨rfl, List.prefix_rfl, .inl rfl, .inl rfl⟩

theorem TickEffect.keeps {s t : State} (h : TickEffect s t) : Keeps s t where
  cfg := by rw [h.frame]
  sent := h.sent
  events := by rw [h.frame]
  answered := by rw [h.frame]
  configured := fun hc => by rw [h.frame]; exact hc

/-- POLL (R243): where the link is not configured, an answer and nothing else; otherwise the bytes of the queue, TIMEOUTCHK,
HBTICK, an answer. -/
theorem execPoll_cases {s t : State} (e : execPoll s = .next t) :
    (s.configured = false ∧ t = answer ⟨true, 0⟩ s) ∨
    (s.configured = true ∧ ∃ u, feed s.rxq (s.withQueue []) = .next u ∧
      t = answer ⟨true, 0⟩ (heartbeatTick (timeoutCheck u))) := by
  unfold execPoll at e
  split at e
  · rename_i hc
    rw [drain_eq_feed s.rxq s rfl] at e
    obtain ⟨u, hu, e⟩ := andThen_eq_next.1 e
    cases e
    exact .inr ⟨hc, u, hu, rfl⟩
  · rename_i hc
    cases e
    exact .inl ⟨by simpa using hc, rfl⟩

/-- Whatever an instruction does, it keeps what was configured, written, raised and answered. -/
theorem exec_keeps {i : Instr} {s t : State} (e : exec i s = .next t) : Keeps s t := by
  rw [exec_eq_run] at e
  generalize Action.ofInstr i = a at e
  cases a with
  | bytes bs => exact (feed_stream e).keeps
  | host c => exact (handlerCommand_effect e).stream.keeps
  | poll =>
    rcases execPoll_cases e with ⟨-, rfl⟩ | ⟨-, u, hu, rfl⟩
    · exact keeps_answer _ s
    · have bytes : Keeps s u := (keeps_queue [] s).trans (feed_stream hu).keeps
      have timers : Keeps u (heartbeatTick (timeoutCheck u)) :=
        (timeoutCheck_stream u).keeps.trans (heartbeatTick_effect _).keeps
      exact bytes.trans (timers.trans (keeps_answer _ _))
  | timeoutCheck => cases e; exact (timeoutCheck_stream s).keeps
  | heartbeatTick => cases e; exact (heartbeatTick_effect s).keeps

/-! ## What one step can do -/

/-- What a step does with an input, in the state without it (R288, log 3): the environment changes its own input, reset
changes the registers, and every other input runs an instruction unless there is none to read. -/
inductive InputEffect (s : State) : Input → State → Prop where
  | arrive (b : Byte) : InputEffect s (.arrive b) { s with rxq := s.rxq ++ [b] }
  | clock (n : Nat) : InputEffect s (.clock n) { s with now := n % 2 ^ s.cfg.clockWidth }
  | strap (v : Nat) : InputEffect s (.strap v) { s with cfgHbInterval := v % 2 ^ s.cfg.clockWidth }
  | handler (h : List CmdWord) : InputEffect s (.handler h) { s with handlers := s.handlers ++ [h] }
  | command {w : CmdWord} {t : State} (run : exec (decodeCommand w) s = .next t) : InputEffect s (.command w) t
  | unread (idle : s.configured = false ∨ ∃ why, decodeStream s.cfg s.receiving s.rxq = .reject why) :
      InputEffect s .receive s
  | receive {i : Instr} {more : List Byte} {t : State} (configured : s.configured = true)
      (read : decodeStream s.cfg s.receiving s.rxq = .instr i more) (run : exec i { s with rxq := more } = .next t) :
      InputEffect s .receive t
  | timeoutchk : InputEffect s .timeoutchk (timeoutCheck s)
  | hbtick : InputEffect s .hbtick (heartbeatTick s)
  | reset : InputEffect s .reset (resetCore s)

theorem step_of_fetch_settled {s t : State} (h : fetch s = .settled t) : step s = .next t := by
  simp only [step, h]

/-- An input that brings no instruction ends the step in the state it leaves. -/
theorem step_of_takeInput_settled {s t : State} {x : Input} {rest : List Input} (h : s.inputs = x :: rest)
    (hx : takeInput x { s with inputs := rest } = .settled t) : step s = .next t :=
  step_of_fetch_settled ((fetch_cons h).trans hx)

/-- With no input left the state is held (R299). -/
theorem step_of_no_inputs {s : State} (h : s.inputs = []) : step s = .next s :=
  step_of_fetch_settled (by simp only [fetch, h])

/-- Nothing is read where the link is not configured or the queue is empty (R30, R243). -/
theorem fetchWire_of_idle {s : State} (h : s.configured = false ∨ s.rxq = []) : fetchWire s = .settled s := by
  rcases h with h | h
  · simp [fetchWire, h]
  · simp [fetchWire, h, decodeStream]

/-- What a receive brings: nothing, or the wire instruction at the head of the queue. -/
theorem fetchWire_cases (s : State) :
    (fetchWire s = .settled s ∧ (s.configured = false ∨ ∃ why, decodeStream s.cfg s.receiving s.rxq = .reject why)) ∨
    (s.configured = true ∧ ∃ i more, decodeStream s.cfg s.receiving s.rxq = .instr i more ∧
      fetchWire s = .run i { s with rxq := more }) := by
  by_cases hc : s.configured = true
  · cases hd : decodeStream s.cfg s.receiving s.rxq with
    | instr i more => exact .inr ⟨hc, i, more, rfl, fetchWire_of_instr hc hd⟩
    | reject why => exact .inl ⟨by simp only [fetchWire, hc, hd, if_true], .inr ⟨why, rfl⟩⟩
  · have hc : s.configured = false := by simpa using hc
    exact .inl ⟨fetchWire_of_idle (.inl hc), .inl hc⟩

/-- A step with an input does what the input brings. -/
theorem step_effect {s t : State} {x : Input} {rest : List Input} (h : s.inputs = x :: rest) (e : step s = .next t) :
    InputEffect { s with inputs := rest } x t := by
  have settled : ∀ {u}, takeInput x { s with inputs := rest } = .settled u → t = u := fun hx =>
    Host.Outcome.next.inj (e.symm.trans (step_of_takeInput_settled h hx))
  have run : ∀ {i u}, takeInput x { s with inputs := rest } = .run i u → exec i u = .next t := fun hx =>
    (step_of_takeInput_run h hx).symm.trans e
  cases x with
  | arrive b => exact settled rfl ▸ .arrive b
  | clock n => exact settled rfl ▸ .clock n
  | strap v => exact settled rfl ▸ .strap v
  | handler g => exact settled rfl ▸ .handler g
  | command w => exact .command (run rfl)
  | receive =>
    rcases fetchWire_cases { s with inputs := rest } with ⟨hf, hi⟩ | ⟨hc, i, more, hd, hf⟩
    · cases settled hf
      exact .unread hi
    · exact .receive hc hd (run hf)
  | timeoutchk => cases run rfl; exact .timeoutchk
  | hbtick => cases run rfl; exact .hbtick
  | reset => exact settled rfl ▸ .reset

/-- Settles O51: each input of the environment ends the step in the state `takeInput` leaves, and so does a receive with
nothing to read. -/
theorem environmentChangesInputsOnly : Obligations.EnvironmentChangesInputsOnly := by
  unfold Obligations.EnvironmentChangesInputsOnly
  refine fun s rest => ⟨fun b h => ?arrive, fun t h => ?clock, fun v h => ?strap, fun g h => ?handler,
    fun h idle => ?receive, step_of_no_inputs⟩
  case receive => exact step_of_takeInput_settled h (fetchWire_of_idle (s := { s with inputs := rest }) idle)
  all_goals exact step_of_takeInput_settled h rfl

theorem InputEffect.grows {s t : State} {x : Input} (h : InputEffect s x t) :
    s.txTrace <+: t.txTrace ∧ s.evTrace <+: t.evTrace ∧ s.rspTrace <+: t.rspTrace ∧ t.cfg = s.cfg := by
  have ran : ∀ {u}, Keeps s u → s.txTrace <+: u.txTrace ∧ s.evTrace <+: u.evTrace ∧ s.rspTrace <+: u.rspTrace ∧
      u.cfg = s.cfg := fun h => ⟨h.sent, h.events, h.answered, h.cfg⟩
  cases h with
  | command run => exact ran (exec_keeps run)
  | receive _ _ run => exact ran ((keeps_queue _ s).trans (exec_keeps run))
  | timeoutchk => exact ran (timeoutCheck_stream s).keeps
  | hbtick => exact ran (heartbeatTick_effect s).keeps
  | _ => exact ⟨List.prefix_rfl, List.prefix_rfl, List.prefix_rfl, rfl⟩

/-- Settles O59: what an instruction does keeps the traces and the configuration, and an input of the environment and the
reset event leave both alone. -/
theorem tracesOnlyGrow : Obligations.TracesOnlyGrow := by
  unfold Obligations.TracesOnlyGrow
  intro s t e
  cases h : s.inputs with
  | nil =>
    cases (step_of_no_inputs h).symm.trans e
    exact ⟨List.prefix_rfl, List.prefix_rfl, List.prefix_rfl, rfl⟩
  | cons x rest => exact (step_effect h e).grows

/-- A command word other than CONNECT leaves a link that is not configured as it is. -/
theorem command_unconfigured {w : CmdWord} (hw : commandOf w ≠ .connect) {s t : State}
    (e : exec (decodeCommand w) s = .next t) (hc : s.configured = false) : t.configured = false := by
  unfold decodeCommand at e
  by_cases hp : commandOf w = .poll
  · rw [hp] at e
    rcases execPoll_cases e with ⟨-, rfl⟩ | ⟨h, -⟩
    · exact hc
    · rw [hc] at h; cases h
  · rw [exec_ofCommand hp] at e
    rw [(handlerCommand_answered hw e).frame]
    exact hc

/-- Of all inputs only a CONNECT on the command port configures a link (R30, R242). -/
theorem InputEffect.connect_of_configures {s t : State} {x : Input} (h : InputEffect s x t) (hs : s.configured = false)
    (ht : t.configured = true) : ∃ w, x = .command w ∧ commandOf w = .connect := by
  have unchanged : ∀ {u : State}, u.configured = s.configured → u.configured ≠ true := fun hu hc => by
    rw [hu, hs] at hc; cases hc
  cases h with
  | @command w _ run =>
    refine ⟨w, rfl, by_contra fun hw => ?_⟩
    rw [command_unconfigured hw run hs] at ht
    cases ht
  | receive hc _ _ => exact absurd hc (unchanged rfl)
  | timeoutchk => exact absurd ht (unchanged (timeoutCheck_configured s))
  | hbtick => exact absurd ht (unchanged (by rw [(heartbeatTick_effect s).frame]))
  | reset => cases ht
  | _ => exact absurd ht (unchanged rfl)

/-- Of all inputs only the reset event unconfigures a link (R30). -/
theorem InputEffect.reset_of_unconfigures {s t : State} {x : Input} (h : InputEffect s x t) (hs : s.configured = true)
    (ht : t.configured = false) : x = .reset := by
  have kept : ∀ {u : State}, Keeps s u → u.configured ≠ false := fun hu hc => by
    rw [hu.configured hs] at hc; cases hc
  cases h with
  | command run => exact absurd ht (kept (exec_keeps run))
  | receive _ _ run => exact absurd ht (kept ((keeps_queue _ s).trans (exec_keeps run)))
  | timeoutchk => exact absurd ht (kept (timeoutCheck_stream s).keeps)
  | hbtick => exact absurd ht (kept (heartbeatTick_effect s).keeps)
  | reset => rfl
  | _ => exact absurd (hs.symm.trans ht) (by decide)

/-- Settles O60: an instruction keeps a configured link so, and on a link that is not configured only CONNECT changes
that; an input of the environment touches no register. -/
theorem onlyConnectConfigures : Obligations.OnlyConnectConfigures := by
  unfold Obligations.OnlyConnectConfigures
  exact fun s t x rest h e => ⟨(step_effect h e).connect_of_configures, (step_effect h e).reset_of_unconfigures⟩

/-! ## What one byte can do -/

/-- `m` differs from `s` in the receive side, the TX stream and the fresh liveness state only: where a consumed byte stands
before its callback and its counter. -/
def OnlyReceived (s m : State) : Prop := m = { s.refreshed.withRx m with txTrace := m.txTrace }

theorem OnlyReceived.prologue (s : State) : OnlyReceived s (rxPrologue s) := rfl

theorem OnlyReceived.sendStatus {s m : State} (h : OnlyReceived s m) (c : Byte) : OnlyReceived s (sendStatus c m) := by
  rw [sendStatus_eq]
  exact congrArg (fun u : State => { u with txTrace := m.txTrace ++ if m.configured then [MARKER, c] else [] }) h

/-- How a consumed byte ends (R150, R289): it is stored or opens a frame, it raises an error, or it completes a status frame
or a message and raises that callback. -/
inductive ByteOutcome (b : Byte) (s : State) : State → Prop where
  | stored {t : State} (quiet : errorOfByte b s = none) (rx : OnlyReceived s t) : ByteOutcome b s t
  | failed {m : State} (raised : errorOfByte b s ≠ none) (rx : OnlyReceived s m) :
      ByteOutcome b s (countFailed (purgeRx m))
  | status {m u : State} (quiet : errorOfByte b s = none) (rx : OnlyReceived s m)
      (callback : emit (.onStatus b) m = .next u) : ByteOutcome b s (purgeRx u)
  | message {m u : State} (quiet : errorOfByte b s = none) (rx : OnlyReceived s m)
      (callback : emit (.onMessage m.rxLength m.rxFeature m.rxChecksum (m.rxData.firstBytes m.rxLength.toNat)) m =
        .next u) : ByteOutcome b s (countSuccess (purgeRx u))

theorem armStatus_outcome {b : Byte} {s t : State} (quiet : errorOfByte b s = none)
    (e : armStatus b (rxPrologue s) = .next t) : ByteOutcome b s t := by
  unfold armStatus at e
  obtain ⟨u, hu, e⟩ := andThen_eq_next.1 e
  cases e
  refine .status quiet ?_ hu
  split
  · exact (OnlyReceived.prologue s).sendStatus _
  · exact .prologue s

/-- The error of a completed frame is decided by its sum (R161, R167). -/
theorem complete_outcome {b : Byte} {s m t : State} (hm : OnlyReceived s m)
    (he : errorOfByte b s = if m.acc = 0 then none else some .checksumMismatch) (e : complete m = .next t) :
    ByteOutcome b s t := by
  unfold complete at e
  split at e
  · rename_i h0
    obtain ⟨p, hp, e⟩ := orFault_eq_next.1 e
    obtain ⟨u, hu, e⟩ := andThen_eq_next.1 e
    cases e
    have hp : m.rxData.firstBytes m.rxLength.toNat = p := by
      unfold memPrefix at hp
      split at hp
      · exact Option.some.inj hp
      · cases hp
    subst hp
    refine .message (m := sendStatus m.cfg.stAck m) (by rw [he, if_pos h0]) (hm.sendStatus _) ?_
    simpa using hu
  · rename_i h0
    cases e
    exact .failed (by rw [he, if_neg h0]; simp) (hm.sendStatus _)

/-- The common tail of the arms that store a byte (R160). -/
theorem rxTail_outcome {b : Byte} {s m t : State} (e : rxTail b m = .next t) (hm : OnlyReceived s (rxAdvance b m))
    (he : errorOfByte b s = if frameComplete (rxAdvance b m) && decide ((rxAdvance b m).acc ≠ 0) then
      some .checksumMismatch else none) : ByteOutcome b s t := by
  unfold rxTail at e
  simp only at e
  generalize rxAdvance b m = n at *
  split at e
  · rename_i hf
    refine complete_outcome hm ?_ e
    rw [he, hf]
    by_cases h0 : n.acc = 0 <;> simp [h0]
  · rename_i hf
    cases e
    exact .stored (by rw [he]; simp [hf]) hm

/-- Every consumed byte ends in one of these ways. -/
theorem rxByte_outcome {b : Byte} {s t : State} (e : rxByte b s = .next t) : ByteOutcome b s t := by
  have arm : rxArm b (rxPrologue s) = rxArm b s := rfl
  cases ha : rxArm b s <;> simp only [rxByte, arm, ha] at e
  case start => cases e; exact .stored (by simp only [errorOfByte, ha]) rfl
  case violation => cases e; exact .failed (by simp [errorOfByte, ha]) rfl
  case status => exact armStatus_outcome (by simp only [errorOfByte, ha]) e
  case overflow => cases e; exact .failed (by simp [errorOfByte, ha]) ((OnlyReceived.prologue s).sendStatus _)
  case length => exact rxTail_outcome e rfl (by simp only [errorOfByte, storedHeader, ha]; rfl)
  case feature => exact rxTail_outcome e rfl (by simp only [errorOfByte, storedHeader, ha]; rfl)
  case checksum => exact rxTail_outcome e rfl (by simp only [errorOfByte, storedHeader, ha]; rfl)
  case payload =>
    obtain ⟨m, -, e⟩ := orFault_eq_next.1 e
    exact rxTail_outcome e rfl (by simp only [errorOfByte, storedHeader, ha]; rfl)

/-- Settles O23: of the ways a byte ends, the failed one counts a failure and raises no callback, the message counts a
success, and a handler leaves both counters and the events alone. -/
theorem countersCountErrorsAndMessages : Obligations.CountersCountErrorsAndMessages := by
  unfold Obligations.CountersCountErrorsAndMessages
  intro b s t e
  cases rxByte_outcome e with
  | stored quiet rx => rw [if_pos quiet, rx]; exact ⟨rfl, .inl ⟨rfl, rfl⟩⟩
  | failed raised rx => rw [if_neg raised, rx]; exact ⟨rfl, .inl ⟨rfl, rfl⟩⟩
  | status quiet rx callback =>
    have h := emit_effect callback
    rw [rx] at h
    rw [if_pos quiet]
    exact ⟨h.failedCount, .inr (.inl ⟨b, h.evTrace, h.successCount⟩)⟩
  | message quiet rx callback =>
    have h := emit_effect callback
    rw [rx] at h
    rw [if_pos quiet]
    refine ⟨h.failedCount, .inr (.inr ⟨_, _, _, _, h.evTrace, ?_, quiet⟩)⟩
    rw [countSuccess_successCount, purgeRx_successCount, purgeRx_cfg, h.successCount, h.cfg]
    rfl

theorem OnlyReceived.withTx {s m : State} (h : OnlyReceived s m) : m = m.withTx s := by
  rw [h]; rfl

theorem OnlyReceived.handlers {s m : State} (h : OnlyReceived s m) : m.handlers = s.handlers := by
  rw [h]; rfl

/-- Settles O24: no way a byte ends writes the send side itself, and with no handler `emit` writes the event only. -/
theorem receivingLeavesSendSide : Obligations.ReceivingLeavesSendSide := by
  unfold Obligations.ReceivingLeavesSendSide
  intro b s t hs e
  cases rxByte_outcome e with
  | stored quiet rx => exact rx.withTx
  | failed raised rx => rw [rx]; rfl
  | status quiet rx callback =>
    rw [emit_nil (rx.handlers.trans hs)] at callback
    cases callback
    rw [rx]; rfl
  | message quiet rx callback =>
    rw [emit_nil (rx.handlers.trans hs)] at callback
    cases callback
    rw [rx]; rfl

/-! ## The widths -/

/-- `s` with the registers, inputs and answers of `t` whose widths `WidthInv` bounds. -/
def State.withWidths (s t : State) : State :=
  { s with
    cfg := t.cfg, hbInterval := t.hbInterval, lastMessageTime := t.lastMessageTime
    lastHeartbeatTime := t.lastHeartbeatTime, failedCount := t.failedCount, successCount := t.successCount
    now := t.now, cfgHbInterval := t.cfgHbInterval, rspTrace := t.rspTrace }

/-- `WidthInv` reads these registers, inputs and answers only. -/
theorem WidthInv.congr {s t : State} (h : WidthInv s) (ht : t = t.withWidths s) : WidthInv t := by
  rw [ht]
  exact ⟨h.interval, h.message, h.heartbeat, h.clock, h.strap, h.failed, h.success, h.responses⟩

theorem WidthInv.answer {s : State} (h : WidthInv s) {r : Response} (hr : r.data < 2 ^ s.cfg.responseWidth) :
    WidthInv (answer r s) where
  interval := h.interval
  message := h.message
  heartbeat := h.heartbeat
  clock := h.clock
  strap := h.strap
  failed := h.failed
  success := h.success
  responses := fun x hx => by
    rcases List.mem_append.1 hx with hx | hx
    · exact h.responses x hx
    · rw [List.mem_singleton.1 hx]; exact hr

theorem WidthInv.countFailed {s : State} (h : WidthInv s) : WidthInv (countFailed s) :=
  ⟨h.interval, h.message, h.heartbeat, h.clock, h.strap, Nat.mod_lt _ (Nat.two_pow_pos _), h.success, h.responses⟩

theorem WidthInv.countSuccess {s : State} (h : WidthInv s) : WidthInv (countSuccess s) :=
  ⟨h.interval, h.message, h.heartbeat, h.clock, h.strap, h.failed, Nat.mod_lt _ (Nat.two_pow_pos _), h.responses⟩

theorem WidthInv.purgeRx {s : State} (h : WidthInv s) : WidthInv (purgeRx s) := h.congr rfl

/-- Consuming a byte stamps the clock, which has its width (R151). -/
theorem WidthInv.received {s m : State} (h : WidthInv s) (hm : OnlyReceived s m) : WidthInv m := by
  have hr : WidthInv s.refreshed :=
    ⟨h.interval, h.clock, h.heartbeat, h.clock, h.strap, h.failed, h.success, h.responses⟩
  rw [hm]
  exact hr.congr rfl

/-- Every host command keeps the widths: CONNECT takes the clock and a legal interval, the others answer within the
response port (R101, R242). -/
theorem WidthInv.handlerCommand {c : Command} {s t : State} (h : WidthInv s) (e : handlerCommand c s = .next t) :
    WidthInv t := by
  by_cases hc : c = .connect
  · subst hc
    rcases execConnect_cases e with rfl | ⟨-, hl, rfl⟩
    · exact h.answer (Nat.two_pow_pos _)
    · refine WidthInv.answer ?_ (Nat.two_pow_pos s.cfg.responseWidth)
      exact ⟨hl, h.clock, h.clock, h.clock, h.strap, h.failed, h.success, h.responses⟩
  · obtain ⟨hf, r, hr, hw⟩ := handlerCommand_answered hc e
    refine (h.answer (hw h)).congr ?_
    rw [HostFrame, hr] at hf
    rw [hf]
    rfl

theorem WidthInv.runHandler {g : List CmdWord} {s t : State} (h : WidthInv s) (e : runHandler g s = .next t) :
    WidthInv t := by
  induction g generalizing s with
  | nil => cases e; exact h
  | cons w rest ih =>
    obtain ⟨u, hu, e⟩ := andThen_eq_next.1 e
    exact ih (h.handlerCommand hu) e

theorem WidthInv.emit {ev : Event} {s t : State} (h : WidthInv s) (e : emit ev s = .next t) : WidthInv t := by
  cases hg : s.handlers with
  | nil => rw [emit_nil hg] at e; cases e; exact h.congr rfl
  | cons g rest => rw [emit_cons hg] at e; exact WidthInv.runHandler (h.congr rfl) e

theorem WidthInv.rxByte {b : Byte} {s t : State} (h : WidthInv s) (e : rxByte b s = .next t) : WidthInv t := by
  cases rxByte_outcome e with
  | stored _ rx => exact h.received rx
  | failed _ rx => exact (h.received rx).purgeRx.countFailed
  | status _ rx callback => exact ((h.received rx).emit callback).purgeRx
  | message _ rx callback => exact ((h.received rx).emit callback).purgeRx.countSuccess

theorem WidthInv.feed {bs : List Byte} {s t : State} (h : WidthInv s) (e : feed bs s = .next t) : WidthInv t := by
  induction bs generalizing s with
  | nil => cases e; exact h
  | cons b bs ih =>
    obtain ⟨u, hu, e⟩ := andThen_eq_next.1 e
    exact ih (h.rxByte hu) e

/-! ## The invariant -/

theorem Inv.byte {s : State} (h : Inv s) : ByteInv s := ⟨h.tx, h.rx⟩

/-- A configured link is under no duty of `unconfigured` (R30). -/
theorem Inv.of_configured {s : State} (h : ByteInv s) (hw : WidthInv s) (hc : s.configured = true) : Inv s :=
  ⟨h.tx, h.rx, hw, fun hn => by rw [hc] at hn; cases hn⟩

/-- The invariant reads neither the streams of the wire, the events nor what the environment has yet to do. -/
theorem Inv.congr {s t : State} (h : Inv s) (ht : t = { s with
    rxq := t.rxq, txTrace := t.txTrace, evTrace := t.evTrace, handlers := t.handlers, inputs := t.inputs }) : Inv t := by
  rw [ht]
  exact ⟨h.tx.congr rfl rfl, h.rx.congr rfl rfl, h.width.congr rfl, h.unconfigured⟩

theorem Inv.answer {s : State} (h : Inv s) {r : Response} (hr : r.data < 2 ^ s.cfg.responseWidth) : Inv (answer r s) :=
  ⟨h.tx.congr rfl rfl, h.rx.congr rfl rfl, h.width.answer hr, h.unconfigured⟩

/-- A host command leaves the receive side but for its cursor (R79). -/
theorem CommandEffect.rxInv {s t : State} (h : CommandEffect s t) (hr : RxInv s)
    (hc : t.receiveCursor.toNat ≤ t.cfg.cap) : RxInv t where
  length := by rw [h.rxLength, h.cfg]; exact hr.length
  cursor := hc
  data := by rw [h.rxData, h.cfg]; exact hr.data
  idle := by rw [h.receiving, h.receiveCount]; exact hr.idle
  position := by rw [h.rxLength, h.receiveCount]; exact hr.position
  beforeLength := by rw [h.rxLength, h.receiveCount]; exact hr.beforeLength
  beforeFeature := by rw [h.rxFeature, h.receiveCount]; exact hr.beforeFeature
  beforeChecksum := by rw [h.rxChecksum, h.receiveCount]; exact hr.beforeChecksum
  blank := by rw [h.rxData, h.receiveCount]; exact hr.blank
  sum := by rw [h.acc, h.rxLength, h.rxFeature, h.rxChecksum, h.rxData, h.receiveCount]; exact hr.sum

theorem Inv.handlerCommand {c : Command} {s t : State} (h : Inv s) (e : handlerCommand c s = .next t) : Inv t where
  tx := (handlerCommand_inv h.byte.command e).tx
  rx := (handlerCommand_effect e).rxInv h.rx (handlerCommand_inv h.byte.command e).cursor
  width := h.width.handlerCommand e
  unconfigured := fun hn => by
    have he := handlerCommand_effect e
    rcases he.link with ⟨hi, -, -, hd, hc⟩ | ⟨-, -, -, -, -, -, hc⟩
    · rw [he.receiving, hi, hd]
      exact h.unconfigured (hc.symm.trans hn)
    · rw [hc] at hn; cases hn

theorem Inv.feed {bs : List Byte} {s t : State} (h : Inv s) (hc : s.configured = true) (e : feed bs s = .next t) :
    Inv t :=
  .of_configured (feed_inv h.byte e) (h.width.feed e) ((feed_stream e).keeps.configured hc)

theorem Inv.timeoutCheck {s : State} (h : Inv s) : Inv (timeoutCheck s) := by
  unfold Machine.timeoutCheck
  split
  · rename_i hx
    have hc := configured_of_timeoutExpired hx
    refine .of_configured ⟨sendStatus_tx (ByteInv.of_purged h.tx).tx, ?_⟩ ?_ (by simpa using hc)
    · rw [sendStatus_eq]; exact (RxInv.purged s).congr rfl rfl
    · rw [sendStatus_eq]; exact h.width.congr rfl
  · exact h

theorem TickEffect.inv {s t : State} (h : Inv s) (e : TickEffect s t) : Inv t := by
  have hs : t.lastHeartbeatTime < 2 ^ s.cfg.clockWidth := by
    rcases e.stamp with hs | hs <;> rw [hs]
    · exact h.width.heartbeat
    · exact h.width.clock
  rw [e.frame]
  refine ⟨h.tx.congr rfl rfl, h.rx.congr rfl rfl, ?widths, fun hn => ?unconfigured⟩
  case widths =>
    exact ⟨h.width.interval, h.width.message, hs, h.width.clock, h.width.strap, h.width.failed, h.width.success,
      h.width.responses⟩
  case unconfigured =>
    obtain ⟨hr, hi, hd⟩ := h.unconfigured hn
    rcases e.dead with he | hc
    · exact ⟨hr, hi, he.trans hd⟩
    · exact absurd (hc.symm.trans hn) (by decide)

theorem Inv.poll {s t : State} (h : Inv s) (e : execPoll s = .next t) : Inv t := by
  rcases execPoll_cases e with ⟨-, rfl⟩ | ⟨hc, u, hu, rfl⟩
  · exact h.answer (Nat.two_pow_pos _)
  · have bytes : Inv u := Inv.feed (s := s.withQueue []) (h.congr rfl) hc hu
    exact (TickEffect.inv bytes.timeoutCheck (heartbeatTick_effect _)).answer (Nat.two_pow_pos _)

/-- Every instruction keeps the invariant of a configured link. -/
theorem Inv.exec {i : Instr} {s t : State} (h : Inv s) (hc : s.configured = true) (e : exec i s = .next t) : Inv t := by
  rw [exec_eq_run] at e
  generalize Action.ofInstr i = a at e
  cases a with
  | bytes bs => exact h.feed hc e
  | host c => exact h.handlerCommand e
  | poll => exact h.poll e
  | timeoutCheck => cases e; exact h.timeoutCheck
  | heartbeatTick => cases e; exact (heartbeatTick_effect s).inv h

/-- A command word keeps the invariant, on a link that is not configured too. -/
theorem Inv.command {w : CmdWord} {s t : State} (h : Inv s) (e : Machine.exec (decodeCommand w) s = .next t) : Inv t := by
  unfold decodeCommand at e
  by_cases hp : commandOf w = .poll
  · rw [hp] at e
    exact h.poll e
  · rw [exec_ofCommand hp] at e
    exact h.handlerCommand e

/-- The reset event leaves the registers at values that meet the invariant (R320, R321). -/
theorem Inv.reset {s : State} (h : Inv s) : Inv (resetCore s) where
  tx := ⟨Nat.zero_le _, Nat.zero_le _, rfl, Memory.ok_nil _⟩
  rx := (RxInv.purged s).congr rfl rfl
  width := ⟨Nat.zero_le _, Nat.two_pow_pos _, Nat.two_pow_pos _, h.width.clock, h.width.strap, Nat.two_pow_pos _,
    Nat.two_pow_pos _, h.width.responses⟩
  unconfigured := fun _ => ⟨rfl, rfl, rfl⟩

/-- The clock and the strap take any value of their width (R46, R48). -/
theorem Inv.setInputs {s : State} (h : Inv s) {n v : Nat} (hn : n < 2 ^ s.cfg.clockWidth)
    (hv : v < 2 ^ s.cfg.clockWidth) : Inv { s with now := n, cfgHbInterval := v } where
  tx := h.tx.congr rfl rfl
  rx := h.rx.congr rfl rfl
  width := ⟨h.width.interval, h.width.message, h.width.heartbeat, hn, hv, h.width.failed, h.width.success,
    h.width.responses⟩
  unconfigured := h.unconfigured

theorem InputEffect.inv {s t : State} {x : Input} (e : InputEffect s x t) (h : Inv s) : Inv t := by
  have mod (n : Nat) : n % 2 ^ s.cfg.clockWidth < 2 ^ s.cfg.clockWidth := Nat.mod_lt _ (Nat.two_pow_pos _)
  cases e with
  | arrive b => exact h.congr rfl
  | clock n => exact h.setInputs (mod n) h.width.strap
  | strap v => exact h.setInputs h.width.clock (mod v)
  | handler g => exact h.congr rfl
  | command run => exact h.command run
  | unread _ => exact h
  | @receive i more _ hc _ run =>
    have hq : Inv { s with rxq := more } := h.congr rfl
    exact hq.exec hc run
  | timeoutchk => exact h.timeoutCheck
  | hbtick => exact (heartbeatTick_effect s).inv h
  | reset => exact h.reset

/-- Settles O55: the step's input keeps the invariant. Each instruction does, and bytes are read on a configured link only,
so what holds of an unconfigured one is never at stake. -/
theorem stepKeepsInvariant : Obligations.StepKeepsInvariant := by
  unfold Obligations.StepKeepsInvariant
  intro s t h e
  cases hi : s.inputs with
  | nil => cases (step_of_no_inputs hi).symm.trans e; exact h
  | cons x rest => exact (step_effect hi e).inv (h.congr rfl)

/-! ## Register reads -/

/-- The row of a register accepts with its value and changes nothing else (R246). -/
theorem exec_reg_instr (r : Reg) (s : State) : exec r.instr s = .next (s.answered ⟨true, readReg r s⟩) :=
  handlerCommand_rdreg_instr r s

/-- The generic row with a register's selector acts as that register's row (R41). -/
theorem exec_rdreg_selector (r : Reg) (s : State) : exec (.rdreg r.selector) s = exec r.instr s := by
  rw [handlerCommand_rdreg_instr]
  show execRdreg r.selector s = answerReg r s
  simp only [execRdreg, Reg.ofSelector_selector]

/-- STATUS is the sum of the bits of its flags (R41). -/
theorem statusFlags_eq (s : State) :
    statusFlags s = (if s.configured then 1 else 0) + (if s.receiving then 2 else 0) +
      (if s.heartbeatDead then 4 else 0) := by
  unfold statusFlags
  cases s.configured <;> cases s.receiving <;> cases s.heartbeatDead <;> rfl

/-- Settles O45: each row answers its register, and the generic row with that selector acts as the row. -/
theorem rdregReadsItsRegister : Obligations.RdregReadsItsRegister := by
  unfold Obligations.RdregReadsItsRegister
  intro s
  have status : exec .rdregStatus s = _ := exec_reg_instr .status s
  rw [readReg, statusFlags_eq] at status
  exact ⟨exec_reg_instr .rxLength s, exec_reg_instr .rxFeature s, exec_reg_instr .rxChecksum s,
    exec_reg_instr .rxFeatureSet s, exec_reg_instr .receiveCursor s, exec_reg_instr .receiveCount s,
    exec_reg_instr .txLength s, exec_reg_instr .txFeature s, exec_reg_instr .txChecksum s,
    exec_reg_instr .txFeatureSet s, exec_reg_instr .sendCursor s, status,
    exec_reg_instr .failedCount s, exec_reg_instr .successCount s, exec_reg_instr .hbInterval s,
    exec_reg_instr .lastMessageTime s, exec_reg_instr .lastHeartbeatTime s,
    fun r => ⟨exec_rdreg_selector r s, _, (exec_rdreg_selector r s).trans (exec_reg_instr r s)⟩⟩

/-! ## Handlers -/

/-- The state in which the handler of a callback starts: what was written before it, the event, and the handlers after it
(R49). -/
def State.calling (s : State) (sent : List Byte) (ev : Event) (hs : List (List CmdWord)) : State :=
  { s with txTrace := s.txTrace ++ sent, evTrace := s.evTrace ++ [ev], handlers := hs }

/-- `emit` after a status frame was sent: the handler starts with both on their traces. -/
theorem emit_sendStatus {s : State} {h : List CmdWord} {hs : List (List CmdWord)} (hh : s.handlers = h :: hs)
    (ev : Event) (c : Byte) :
    emit ev (sendStatus c s) = runHandler h (s.calling (if s.configured then [MARKER, c] else []) ev hs) := by
  rw [emit_cons (h := h) (rest := hs) (by simpa using hh), sendStatus_eq]
  rfl

/-- A complete message of sum 0 runs the handler with the ACK written and the Message in place (R162). -/
theorem complete_handler {s : State} {h : List CmdWord} {hs : List (List CmdWord)} (hh : s.handlers = h :: hs)
    (h0 : s.acc = 0) (hl : s.rxLength.toNat ≤ s.cfg.cap) :
    complete s = andThen (runHandler h (s.calling (if s.configured then [MARKER, s.cfg.stAck] else [])
        (.onMessage s.rxLength s.rxFeature s.rxChecksum (s.rxData.firstBytes s.rxLength.toNat)) hs))
      fun u => .next (countSuccess (purgeRx u)) := by
  rw [complete_valid h0 hl, emit_sendStatus hh]

/-- A status code runs the handler after any ACK and before the purge (R158, R163). -/
theorem armStatus_handler {s : State} {h : List CmdWord} {hs : List (List CmdWord)} (hh : s.handlers = h :: hs)
    (b : Byte) :
    armStatus b s = andThen (runHandler h (s.calling
        (if b = ST_HELO ∧ s.configured = true then [MARKER, s.cfg.stAck] else []) (.onStatus b) hs))
      fun u => .next (purgeRx u) := by
  unfold armStatus
  by_cases hb : b = ST_HELO
  · simp only [hb, if_true, emit_sendStatus hh, true_and]
  · simp only [emit_cons hh, hb, false_and, State.calling, if_false, List.append_nil]

theorem statusCode_eq_helo (c : Nibble) : statusCode c = ST_HELO ↔ c = 0xB := by
  revert c; decide

/-- What the byte that ends a frame brings to completion (R157, R159, R161): the checksum of a frame with no payload, or
the last payload byte, in its place. -/
theorem rxByte_last {s : State} (hr : s.receiving = true) (hw : s.rxData.wf = true) (hl : s.rxLength.toNat ≤ s.cfg.cap)
    (hc : s.receiveCount.toNat = s.rxLength.toNat + 2) (b : Byte) :
    ∃ n, rxByte b s = complete n ∧ n.receiveCount.toNat = s.rxLength.toNat + 3 ∧ n.acc = s.acc + b ∧
      n.rxChecksum = (if s.rxLength = 0 then b else s.rxChecksum) ∧
      (∀ i, n.rxData.read i = if i + 3 = s.receiveCount.toNat then b else s.rxData.read i) ∧
      n = { s.refreshed with
        receiveCount := n.receiveCount, acc := n.acc, rxChecksum := n.rxChecksum, rxData := n.rxData } := by
  by_cases h0 : s.rxLength = 0
  · rw [h0] at hc
    have h2 : s.receiveCount = 2 := BitVec.eq_of_toNat_eq hc
    refine ⟨s.checksumStored b, rxByte_checksum_last hr h2 h0 b, by rw [h0]; rfl, rfl, (if_pos h0).symm, fun i => ?_, rfl⟩
    have hc : s.receiveCount.toNat = 2 := hc
    rw [if_neg (by omega)]
    rfl
  · have hn : s.rxLength.toNat ≠ 0 := fun e => h0 (BitVec.eq_of_toNat_eq e)
    have hs : (s.receiveCount + 1).toNat = s.receiveCount.toNat + 1 := count_succ (c := s.cfg) (by omega)
    refine ⟨s.payloadStored b, rxByte_payload_last hr (by omega) (by omega) hl b, by exact hs.trans (by omega), rfl,
      (if_neg h0).symm, fun i => ?_, rfl⟩
    show (s.rxData.write (s.receiveCount.toNat - 3) b).read i = _
    rw [Memory.read_write hw]
    have : i = s.receiveCount.toNat - 3 ↔ i + 3 = s.receiveCount.toNat := by omega
    simp only [this]

/-- Settles O16: a data frame comes to completion with its fields in place and a status code to the status arm, from IDLE as
byte by byte; there the handler runs with any ACK written, and the purge and the counter follow it. -/
theorem handlersRunBeforeThePurge : Obligations.HandlersRunBeforeThePurge := by
  unfold Obligations.HandlersRunBeforeThePurge
  intro s h hs hh
  refine ⟨fun l f k p hc hr hwf => ?frame, fun c hc hr => ?status, fun b hr hw hl hn h0 => ?lastByte,
    fun b hr hn hb => ?statusByte⟩
  case frame =>
    simp only [Instr.wf, dataShape, Bool.and_eq_true, decide_eq_true_eq] at hwf
    obtain ⟨⟨hp, hcap⟩, h0⟩ := hwf
    have hrun : exec (.data l f k p) s = _ :=
      (feed_dataBytes hr hp hcap).trans (complete_handler (s := s.filled l f k p) hh h0 hcap)
    have hbytes : (s.filled l f k p).rxData.firstBytes l.toNat = p := hp ▸ Memory.firstBytes_writeRun p
    have hcount : (BitVec.ofNat 8 (p.length + 3)).toNat = l.toNat + 3 := by
      have := s.cfg.cap_le
      rw [BitVec.toNat_ofNat]
      omega
    refine ⟨_, hrun, ?ack, ?event, rfl, rfl, hcount, rfl, rfl, rfl, rfl, h0, fun i => ?contents, rfl⟩
    case ack => exact congrArg (s.txTrace ++ ·) (if_pos hc)
    case event => exact congrArg (fun q => s.evTrace ++ [.onMessage l f k q]) hbytes
    case contents => exact (Memory.read_writeRun rfl 0 p i).trans (if_pos (Nat.zero_le i))
  case status =>
    have hrun : exec (.status c) s = _ :=
      (feed_statusBytes hr (statusCode_ge c)).trans (armStatus_handler (s := armStart s.refreshed) hh (statusCode c))
    refine ⟨_, hrun, rfl, rfl, rfl, rfl, ?ack, rfl⟩
    case ack =>
      show s.txTrace ++ (if statusCode c = ST_HELO ∧ s.configured = true then [MARKER, s.cfg.stAck] else []) = _
      simp only [statusCode_eq_helo, hc, and_true]
  case lastByte =>
    obtain ⟨n, hlast, hcount, hacc, hsum, hread, hframe⟩ := rxByte_last hr hw hl hn b
    have hlen : n.rxLength = s.rxLength := by rw [hframe]; rfl
    have hcfg : n.cfg = s.cfg := by rw [hframe]; rfl
    have hrun : exec (.rxbyte b) s = _ := hlast.trans
      (complete_handler (by rw [hframe]; exact hh) (hacc.trans h0) (by rw [hlen, hcfg]; exact hl))
    refine ⟨_, hrun, ?ack, ?event, rfl, hcount, hacc.trans h0, hsum, hread, ?frame⟩
    case ack | event | frame => rw [hframe]; rfl
  case statusByte =>
    show rxByte b s = _
    rw [rxByte_status hr hn hb, armStatus_handler (s := s.refreshed) hh]
    rfl

end Sys2Proof.Machine
end

/-! The block's memory (20_memory.md): every instruction and every step completes from a state that meets the invariant
(R68), the stream decoder neither drops nor invents a byte (R75), the host's commands leave the receive side alone (R79),
and some of them are idempotent (R67). -/

namespace Sys2Proof

/-! ## What the stream decoder reads -/

/-- `i` is a well-formed instruction whose words are the bytes before `rest` in the stream (R118). -/
structure ReadsHead (c : Config) (bytes : List Byte) (i : Instr) (rest : List Byte) : Prop where
  wf : i.wf c = true
  head : ∃ front, encode i = some (.stream front) ∧ bytes = front ++ rest

/-- A status code is the code of its own low nibble (R92). -/
theorem statusCode_codeNibble {b : Byte} (h : STATUS_MIN ≤ b) : statusCode (codeNibble b) = b := by
  revert b; decide

theorem statusInstr_readsHead (c : Config) {b : Byte} (hb : STATUS_MIN ≤ b) (rest : List Byte) :
    ReadsHead c (MARKER :: b :: rest) (statusInstr c b) rest := by
  have hn := statusCode_codeNibble hb
  have head : MARKER :: b :: rest = statusBytes (statusCode (codeNibble b)) ++ rest := by rw [hn]; rfl
  unfold statusInstr
  split_ifs with hHelo hAck hNack hFail
  case pos => exact ⟨rfl, _, rfl, by rw [hHelo]; rfl⟩
  case pos => exact ⟨decide_eq_true (hn.trans hAck), _, rfl, head⟩
  case pos => exact ⟨decide_eq_true (hn.trans hNack), _, rfl, head⟩
  case pos => exact ⟨decide_eq_true (hn.trans hFail), _, rfl, head⟩
  case neg =>
    refine ⟨?_, _, rfl, head⟩
    simp only [Instr.wf, Bool.and_eq_true, decide_eq_true_eq, hn]
    exact ⟨⟨⟨hHelo, hAck⟩, hNack⟩, hFail⟩

/-- A data frame that the buffer holds is well-formed on either side of the checksum law (R132). -/
theorem dataInstr_readsHead {c : Config} {l : Byte} (hl : l.toNat ≤ c.cap) (f k : Byte) {p : List Byte}
    (hp : p.length = l.toNat) (rest : List Byte) :
    ReadsHead c (dataBytes l f k p ++ rest) (dataInstr l f k p) rest := by
  have shape : dataShape c l p = true := by simp only [dataShape, hp, hl, decide_true, Bool.and_self]
  unfold dataInstr
  split
  case isTrue h => exact ⟨Bool.and_eq_true_iff.2 ⟨shape, decide_eq_true h⟩, _, rfl, rfl⟩
  case isFalse h => exact ⟨Bool.and_eq_true_iff.2 ⟨shape, decide_eq_true h⟩, _, rfl, rfl⟩

theorem marker_readsHead (c : Config) (rest : List Byte) : ReadsHead c (MARKER :: rest) .marker rest :=
  ⟨rfl, [MARKER], rfl, rfl⟩

theorem decodeFrame_readsHead {c : Config} {bytes rest : List Byte} {i : Instr}
    (e : decodeFrame c bytes = .instr i rest) : ReadsHead c (MARKER :: bytes) i rest := by
  cases bytes with
  | nil => cases e; exact marker_readsHead c []
  | cons b more =>
    unfold decodeFrame at e
    cases hk : frameKind c b <;> simp only [hk] at e
    case status =>
      cases e
      exact statusInstr_readsHead c (Machine.frameKind_status.1 hk) _
    case tooLong =>
      cases e
      obtain ⟨hb, hcap⟩ := Machine.frameKind_tooLong.1 hk
      exact ⟨Bool.and_eq_true_iff.2 ⟨decide_eq_true hcap, decide_eq_true (BitVec.not_le.1 hb)⟩, _, rfl, rfl⟩
    case data =>
      split at e
      case h_1 f k body =>
        split at e
        case isTrue hlen =>
          cases e
          have := dataInstr_readsHead (Machine.frameKind_data.1 hk) f k (List.length_take_of_le hlen)
            (body.drop b.toNat)
          simpa [dataBytes] using this
        case isFalse => cases e; exact marker_readsHead c _
      case h_2 => cases e; exact marker_readsHead c _

theorem decodeStream_idle_readsHead {c : Config} {bytes rest : List Byte} {i : Instr}
    (e : decodeStream c false bytes = .instr i rest) : ReadsHead c bytes i rest := by
  cases bytes with
  | nil => cases e
  | cons b more =>
    simp only [decodeStream, Bool.false_eq_true, if_false] at e
    split at e
    case isTrue hb => rw [hb]; exact decodeFrame_readsHead e
    case isFalse hb => cases e; exact ⟨decide_eq_true hb, [b], rfl, rfl⟩

/-- Settles O5: each branch of the decoder answers a well-formed instruction and leaves the stream after its words. -/
theorem decodedWireInstructionIsWellFormed : Obligations.DecodedWireInstructionIsWellFormed := by
  unfold Obligations.DecodedWireInstructionIsWellFormed
  intro c bytes rest i e
  have h := decodeStream_idle_readsHead e
  exact ⟨h.wf, h.head⟩

end Sys2Proof

namespace Sys2Proof.Machine

/-! ## Completion (R68) -/

/-- No row of the opcode table brings POLL as a command of a handler. -/
theorem Action.ofInstr_ne_host_poll (i : Instr) : Action.ofInstr i ≠ .host .poll := by
  cases i <;> nofun

theorem ByteInv.withQueue {s : State} (h : ByteInv s) (q : List Byte) : ByteInv (s.withQueue q) :=
  ⟨h.tx.congr rfl rfl, h.rx.congr rfl rfl⟩

theorem execPoll_next {s : State} (h : ByteInv s) (hl : handlersLegal s) : ∃ t, execPoll s = .next t := by
  unfold execPoll
  split
  · obtain ⟨u, hu⟩ := feed_next (bs := s.rxq) (h.withQueue []) hl
    rw [drain_eq_feed s.rxq s rfl, hu]
    exact ⟨_, rfl⟩
  · exact ⟨_, rfl⟩

/-- Every instruction completes where its action does: bytes, host commands and POLL do so on a sound send and receive
side, the timer steps always. -/
theorem exec_next {s : State} (h : ByteInv s) (hl : handlersLegal s) (i : Instr) : ∃ t, exec i s = .next t := by
  rw [exec_eq_run]
  have hp := Action.ofInstr_ne_host_poll i
  cases ha : Action.ofInstr i with
  | bytes bs => exact feed_next h hl
  | host c => exact handlerCommand_next h.command fun hc => hp (by rw [ha, hc])
  | poll => exact execPoll_next h hl
  | timeoutCheck => exact ⟨_, rfl⟩
  | heartbeatTick => exact ⟨_, rfl⟩

/-- Settles O57: the invariant holds the send and receive sides sound, which is all an instruction needs to complete. -/
theorem everyInstructionCompletes : Obligations.EveryInstructionCompletes := by
  unfold Obligations.EveryInstructionCompletes
  exact fun i s h hl => exec_next h.byte hl i

/-- An input that brings an instruction runs it in the same state but for the bytes it took off the queue. -/
theorem takeInput_run {x : Input} {s t : State} {i : Instr} (e : takeInput x s = .run i t) :
    ∃ q, t = s.withQueue q := by
  cases x with
  | command w => cases e; exact ⟨s.rxq, rfl⟩
  | timeoutchk => cases e; exact ⟨s.rxq, rfl⟩
  | hbtick => cases e; exact ⟨s.rxq, rfl⟩
  | receive =>
    rcases fetchWire_cases s with ⟨hf, -⟩ | ⟨-, j, more, -, hf⟩
    · cases hf.symm.trans e
    · cases hf.symm.trans e; exact ⟨more, rfl⟩
  | arrive b => cases e
  | clock n => cases e
  | strap v => cases e
  | handler g => cases e
  | reset => cases e

/-- Settles O56: a step holds the state, takes an input of the environment, or runs an instruction, which completes. -/
theorem stepNeverStops : Obligations.StepNeverStops := by
  unfold Obligations.StepNeverStops
  intro s h hl
  cases hi : s.inputs with
  | nil => exact ⟨s, step_of_no_inputs hi⟩
  | cons x rest =>
    cases hx : takeInput x { s with inputs := rest } with
    | settled t => exact ⟨t, step_of_takeInput_settled hi hx⟩
    | run i t =>
      have hs : ByteInv { s with inputs := rest } := (h.congr rfl).byte
      obtain ⟨q, rfl⟩ := takeInput_run hx
      rw [step_of_takeInput_run hi hx]
      exact exec_next (hs.withQueue q) hl i

/-! ## Wire instructions as their bytes (R75) -/

/-- The words of a wire instruction are the bytes it consumes (log 8). -/
theorem Action.ofInstr_of_encode {i : Instr} {bs : List Byte} (h : encode i = some (.stream bs)) :
    Action.ofInstr i = .bytes bs := by
  cases i <;> cases h <;> rfl

theorem exec_of_encode {i : Instr} {bs : List Byte} (h : encode i = some (.stream bs)) (s : State) :
    exec i s = feed bs s := by
  rw [exec_eq_run, Action.ofInstr_of_encode h]; rfl

/-- Settles O22: inside a frame the instruction is one RXBYTE; in IDLE it consumes its words, which are the head of the
stream. -/
theorem wireInstructionsAreTheirBytes : Obligations.WireInstructionsAreTheirBytes := by
  unfold Obligations.WireInstructionsAreTheirBytes
  intro s bytes rest i e
  cases hr : s.receiving <;> rw [hr] at e
  case false =>
    obtain ⟨front, hfront, rfl⟩ := (decodeStream_idle_readsHead e).head
    rw [feed_append, exec_of_encode hfront]
  case true =>
    cases bytes with
    | nil => cases e
    | cons b more => cases e; rfl

/-! ## What a host command leaves alone (R79, R294) -/

/-- The frame being received but for its cursor, the queue, the counters and the events are those of `s`. -/
theorem CommandEffect.frame {s t : State} (h : CommandEffect s t) :
    t = { (t.withRx s) with
      receiveCursor := t.receiveCursor, rxq := s.rxq, failedCount := s.failedCount
      successCount := s.successCount, evTrace := s.evTrace } := by
  simp only [State.withRx, ← h.rxLength, ← h.rxFeature, ← h.rxChecksum, ← h.rxData, ← h.receiving, ← h.receiveCount,
    ← h.acc, ← h.rxq, ← h.failedCount, ← h.successCount, ← h.evTrace]

theorem sendMessage_receiveCursor {s u t : State} (e : sendMessage u = .next t)
    (hu : u.receiveCursor = s.receiveCursor) : t.receiveCursor = s.receiveCursor := by
  unfold sendMessage at e
  split at e
  · obtain ⟨v, hv, e⟩ := andThen_eq_next.1 e
    obtain ⟨p, -, hv⟩ := orFault_eq_next.1 hv
    cases hv; cases e; exact hu
  · cases e; exact hu

/-- A rejection moves no cursor, so a command with one keeps the receive cursor where its other branch does. -/
theorem reject_or_receiveCursor {p : Prop} [Decidable p] {o : Result} {s t : State}
    (e : (if p then reject s else o) = .next t) (ho : o = .next t → t.receiveCursor = s.receiveCursor) :
    t.receiveCursor = s.receiveCursor := by
  split at e
  · cases e; rfl
  · exact ho e

/-- Of the host commands only RXGETB and RXGETW move the receive cursor (R39). -/
theorem handlerCommand_receiveCursor {c : Command} (hb : c ≠ .rxgetb) (hw : c ≠ .rxgetw) {s t : State}
    (e : handlerCommand c s = .next t) : t.receiveCursor = s.receiveCursor := by
  cases c
  case rxgetb => exact absurd rfl hb
  case rxgetw => exact absurd rfl hw
  case poll => cases e
  case connect => exact reject_or_receiveCursor e fun e => reject_or_receiveCursor e fun e => by cases e; rfl
  case txbyte v | txword v =>
    refine reject_or_receiveCursor e fun e => ?_
    obtain ⟨m, -, e⟩ := orFault_eq_next.1 e
    cases e; rfl
  case txsend => exact sendMessage_receiveCursor e rfl
  case txsendb f v =>
    obtain ⟨m, -, e⟩ := orFault_eq_next.1 e
    exact sendMessage_receiveCursor e rfl
  case txsendw f w =>
    refine reject_or_receiveCursor e fun e => ?_
    obtain ⟨m, -, e⟩ := orFault_eq_next.1 e
    exact sendMessage_receiveCursor e rfl
  case rdreg sel =>
    simp only [handlerCommand, execRdreg] at e
    split at e <;> (cases e; rfl)
  all_goals (cases e; rfl)

/-- Settles O48: the first clause holds of every host command's effect; each command but RXGETB and RXGETW keeps the receive
cursor, and the link is outside what a command other than CONNECT may change. -/
theorem hostCommandsLeaveTheFrame : Obligations.HostCommandsLeaveTheFrame := by
  unfold Obligations.HostCommandsLeaveTheFrame
  intro c s t hp e
  rw [exec_ofCommand hp] at e
  refine ⟨(handlerCommand_effect e).frame, fun hb hw => handlerCommand_receiveCursor hb hw e, fun hc => ?link⟩
  case link =>
    rw [(handlerCommand_answered hc e).frame]
    exact ⟨rfl, rfl, rfl, rfl, rfl⟩

/-! ## Idempotent commands (R67) -/

/-- A command that accepts after an update which a second time, after an answer, changes nothing. -/
theorem accept_idempotent {f : State → State} {s t : State} (hf : ∀ r, f (answer r (f s)) = answer r (f s))
    (e : accept 0 (f s) = .next t) : accept 0 (f t) = .next (t.answered ⟨true, 0⟩) := by
  cases e
  exact congrArg (accept 0) (hf _)

/-- Settles O41: each of the four accepts after an update whose second run finds its own result in place. -/
theorem idempotentCommands : Obligations.IdempotentCommands := by
  unfold Obligations.IdempotentCommands
  rintro i s t (rfl | ⟨f, rfl⟩ | rfl | rfl) e
  case inl => exact accept_idempotent (f := id) (fun _ => rfl) e
  case inr.inl => exact accept_idempotent (f := fun u => { u with txFeature := f }) (fun _ => rfl) e
  case inr.inr.inl =>
    exact accept_idempotent (f := fun u => { u with txLength := BitVec.ofNat 8 (u.txData.firstBlank u.cfg.cap) })
      (fun _ => rfl) e
  case inr.inr.inr => exact accept_idempotent (f := purgeTx) (fun _ => rfl) e

end Sys2Proof.Machine

/-! The encoding (30_encoding.md): the decoder reads back what the encoder writes (R91, R92, R95, R100), a status code
stands only at position 0 (R98), and the composite commands do what they are made of (R122). -/

namespace Sys2Proof

/-! ## Command words by their fields (R95, R100) -/

@[simp] theorem cmdOp_cmdWord (op : Nibble) (a : Byte) (d : Half) : cmdOp (cmdWord op a d) = op :=
  (BitVec.extractLsb'_append_eq_of_le (xhi := op ++ a) (xlo := d) (by decide)).trans BitVec.extractLsb'_append_eq_left

@[simp] theorem cmdA_cmdWord (op : Nibble) (a : Byte) (d : Half) : cmdA (cmdWord op a d) = a :=
  (BitVec.extractLsb'_append_eq_of_le (xhi := op ++ a) (xlo := d) (by decide)).trans BitVec.extractLsb'_append_eq_right

@[simp] theorem cmdD_cmdWord (op : Nibble) (a : Byte) (d : Half) : cmdD (cmdWord op a d) = d :=
  BitVec.extractLsb'_append_eq_right

@[simp] theorem loByte_joinBytes (hi lo : Byte) : loByte (joinBytes hi lo) = lo := BitVec.extractLsb'_append_eq_right

theorem loByte_eq_setWidth (d : Half) : loByte d = d.setWidth 8 := (BitVec.setWidth_eq_extractLsb' (by decide)).symm

theorem decodeCommand_txfeature (f : Byte) (d : Half) : decodeCommand (cmdWord 0x3 f d) = .txfeature f := by
  simp [decodeCommand, commandOf, Instr.ofCommand]

theorem decodeCommand_txbyte (a : Byte) (d : Half) : decodeCommand (cmdWord 0x4 a d) = .txbyte (loByte d) := by
  simp [decodeCommand, commandOf, Instr.ofCommand]

theorem decodeCommand_txword (a : Byte) (w : Half) : decodeCommand (cmdWord 0x5 a w) = .txword w := by
  simp [decodeCommand, commandOf, Instr.ofCommand]

theorem decodeCommand_txsendb (f : Byte) (d : Half) : decodeCommand (cmdWord 0x8 f d) = .txsendb f (loByte d) := by
  simp [decodeCommand, commandOf, Instr.ofCommand]

theorem decodeCommand_txsendw (f : Byte) (w : Half) : decodeCommand (cmdWord 0x9 f w) = .txsendw f w := by
  simp [decodeCommand, commandOf, Instr.ofCommand]

/-- RDREG with a selector of R41 is answered by that register's row (log 10). -/
theorem decodeCommand_rdreg_selector (r : Reg) (d : Half) : decodeCommand (cmdWord 0xD r.selector d) = r.instr := by
  simp [decodeCommand, commandOf, Instr.ofCommand, Reg.ofSelector_selector]

/-- RDREG with any other selector is answered by the generic row (log 10). -/
theorem decodeCommand_rdreg_none {sel : Byte} (h : Reg.ofSelector sel = none) (d : Half) :
    decodeCommand (cmdWord 0xD sel d) = .rdreg sel := by
  simp [decodeCommand, commandOf, Instr.ofCommand, h]

theorem Reg.selector_of_ofSelector {sel : Byte} {r : Reg} (h : Reg.ofSelector sel = some r) : r.selector = sel := by
  unfold Reg.ofSelector at h
  split at h <;> cases h <;> exact (BitVec.eq_of_toNat_eq ‹_›).symm

theorem Reg.ofSelector_eq_none {sel : Byte} (h : ∀ r : Reg, r.selector ≠ sel) : Reg.ofSelector sel = none :=
  Option.eq_none_iff_forall_ne_some.2 fun r hr => h r (Reg.selector_of_ofSelector hr)

/-- Settles O3: a row with an operand is read back by the equation of its opcode; the word of every other host command is
one fixed word. -/
theorem commandWordsRoundTrip : Obligations.CommandWordsRoundTrip := by
  unfold Obligations.CommandWordsRoundTrip
  intro c i w hwf h
  cases i
  case txfeature f => cases h; exact decodeCommand_txfeature f 0
  case txbyte v => cases h; rw [decodeCommand_txbyte, loByte_joinBytes]
  case txword d => cases h; exact decodeCommand_txword 0 d
  case txsendb f v => cases h; rw [decodeCommand_txsendb, loByte_joinBytes]
  case txsendw f d => cases h; exact decodeCommand_txsendw f d
  case rdreg sel => cases h; exact decodeCommand_rdreg_none (of_decide_eq_true hwf) 0
  all_goals cases h <;> rfl

/-- Settles O2: the operands of an opcode are fields of its word, and no opcode reads another field. -/
theorem opcodeMapIgnoresUnusedBits : Obligations.OpcodeMapIgnoresUnusedBits := by
  unfold Obligations.OpcodeMapIgnoresUnusedBits
  intro a d
  rw [← loByte_eq_setWidth]
  refine ⟨?_, ?_, ?_, decodeCommand_txfeature a d, decodeCommand_txbyte a d, decodeCommand_txword a d, ?_, ?_,
    decodeCommand_txsendb a d, decodeCommand_txsendw a d, ?_, ?_, ?_, ?_, ?_,
    fun r => decodeCommand_rdreg_selector r d, fun h => decodeCommand_rdreg_none (Reg.ofSelector_eq_none h) d⟩
  all_goals
    show decodeCommand (cmdWord _ a d) = _
    simp [decodeCommand, commandOf, Instr.ofCommand]

/-! ## Wire frames by their bytes (R91, R92, R103) -/

@[simp] theorem codeNibble_statusCode (n : Nibble) : codeNibble (statusCode n) = n := by
  revert n; decide

theorem statusInstr_helo (c : Config) : statusInstr c ST_HELO = .helo := if_pos rfl

/-- The four status codes of R9 are different. -/
theorem Config.status_codes_distinct (c : Config) :
    (c.stAck ≠ c.stNack ∧ c.stAck ≠ c.stFail ∧ c.stNack ≠ c.stFail) ∧
      (c.stAck ≠ ST_HELO ∧ c.stNack ≠ ST_HELO ∧ c.stFail ≠ ST_HELO) := by
  obtain ⟨-, -, -, -, -, distinct⟩ := c.ranges
  exact distinct

theorem statusInstr_ack {c : Config} {n : Nibble} (h : statusCode n = c.stAck) :
    statusInstr c (statusCode n) = .ack n := by
  obtain ⟨-, hAck, -⟩ := c.status_codes_distinct
  rw [statusInstr, if_neg (h ▸ hAck), if_pos h, codeNibble_statusCode]

theorem statusInstr_nack {c : Config} {n : Nibble} (h : statusCode n = c.stNack) :
    statusInstr c (statusCode n) = .nack n := by
  obtain ⟨⟨hAckNack, -⟩, -, hNack, -⟩ := c.status_codes_distinct
  rw [statusInstr, if_neg (h ▸ hNack), if_neg (h ▸ hAckNack.symm), if_pos h, codeNibble_statusCode]

theorem statusInstr_fail {c : Config} {n : Nibble} (h : statusCode n = c.stFail) :
    statusInstr c (statusCode n) = .fail n := by
  obtain ⟨⟨-, hAckFail, hNackFail⟩, -, -, hFail⟩ := c.status_codes_distinct
  rw [statusInstr, if_neg (h ▸ hFail), if_neg (h ▸ hAckFail.symm), if_neg (h ▸ hNackFail.symm), if_pos h,
    codeNibble_statusCode]

theorem statusInstr_reserved {c : Config} {n : Nibble} (hwf : (Instr.statusReserved n).wf c = true) :
    statusInstr c (statusCode n) = .statusReserved n := by
  simp only [Instr.wf, Bool.and_eq_true, decide_eq_true_eq] at hwf
  obtain ⟨⟨⟨hHelo, hAck⟩, hNack⟩, hFail⟩ := hwf
  rw [statusInstr, if_neg hHelo, if_neg hAck, if_neg hNack, if_neg hFail, codeNibble_statusCode]

theorem decodeStream_statusBytes (c : Config) {code : Byte} (h : STATUS_MIN ≤ code) (more : List Byte) :
    decodeStream c false (statusBytes code ++ more) = .instr (statusInstr c code) more := by
  show decodeFrame c (code :: more) = _
  simp only [decodeFrame, Machine.frameKind_status.2 h]

theorem decodeStream_overflow {c : Config} {l : Byte} (hl : ¬ STATUS_MIN ≤ l) (hcap : c.cap < l.toNat)
    (more : List Byte) : decodeStream c false ([MARKER, l] ++ more) = .instr (.dataOverflow l) more := by
  show decodeFrame c (l :: more) = _
  simp only [decodeFrame, Machine.frameKind_tooLong.2 ⟨hl, hcap⟩]

/-- A frame that has arrived whole is one instruction, which ends where its payload ends (R118). -/
theorem decodeStream_dataBytes {c : Config} {l : Byte} {p : List Byte} (hp : dataShape c l p = true) (f k : Byte)
    (more : List Byte) :
    decodeStream c false (dataBytes l f k p ++ more) = .instr (dataInstr l f k p) more := by
  simp only [dataShape, Bool.and_eq_true, decide_eq_true_eq] at hp
  obtain ⟨hlen, hcap⟩ := hp
  have whole : l.toNat ≤ (p ++ more).length := by rw [List.length_append]; omega
  show decodeFrame c (l :: f :: k :: (p ++ more)) = _
  simp only [decodeFrame, Machine.frameKind_data.2 hcap, if_pos whole, List.take_left' hlen, List.drop_left' hlen]

/-- Settles O4: a status frame and an overlong one are read at their second byte, a data frame at the end of its payload;
the conditions that make the instruction well-formed choose its row. -/
theorem wireBytesRoundTrip : Obligations.WireBytesRoundTrip := by
  unfold Obligations.WireBytesRoundTrip
  refine ⟨fun c i bytes more hwf h hm => ?_, fun c => rfl⟩
  have status {n : Nibble} := decodeStream_statusBytes c (Machine.statusCode_ge n) more
  cases i
  case data l f k p =>
    cases h
    obtain ⟨shape, sum⟩ := Bool.and_eq_true_iff.1 hwf
    rw [decodeStream_dataBytes shape, dataInstr, if_pos (of_decide_eq_true sum)]
  case dataMismatch l f k p =>
    cases h
    obtain ⟨shape, sum⟩ := Bool.and_eq_true_iff.1 hwf
    rw [decodeStream_dataBytes shape, dataInstr, if_neg (of_decide_eq_true sum)]
  case dataOverflow l =>
    cases h
    obtain ⟨hcap, hl⟩ := Bool.and_eq_true_iff.1 hwf
    exact decodeStream_overflow (BitVec.not_le.2 (of_decide_eq_true hl)) (of_decide_eq_true hcap) more
  case status n => cases hwf
  case helo => cases h; rw [decodeStream_statusBytes c (by decide), statusInstr_helo]
  case ack n => cases h; rw [status, statusInstr_ack (of_decide_eq_true hwf)]
  case nack n => cases h; rw [status, statusInstr_nack (of_decide_eq_true hwf)]
  case fail n => cases h; rw [status, statusInstr_fail (of_decide_eq_true hwf)]
  case statusReserved n => cases h; rw [status, statusInstr_reserved hwf]
  case stray b => cases h; exact if_neg (of_decide_eq_true hwf)
  case marker => exact absurd rfl hm
  all_goals cases h

/-- Settles O1: the command words by evaluation, the two frames by the round trip of their bytes. -/
theorem sampleWordsDecode : Obligations.SampleWordsDecode := by
  unfold Obligations.SampleWordsDecode
  obtain ⟨frame, -⟩ := wireBytesRoundTrip
  refine ⟨rfl, rfl, rfl, rfl, rfl, rfl, rfl, rfl, rfl, rfl, rfl, fun c => ?helo, ?data⟩
  case helo => exact frame c .helo _ [] rfl rfl nofun
  case data => exact frame .reference (.data 0x02 0x32 0x86 [0x12, 0x34]) _ [] (by decide) rfl nofun

end Sys2Proof

namespace Sys2Proof.Machine

/-! ## Particular rows (R103, R246) -/

/-- A row and its generic row bring the same action: the same bytes, or the same command (R103, R41). -/
theorem Action.ofInstr_generic (i : Instr) : Action.ofInstr i.generic = Action.ofInstr i := by
  cases i <;> rfl

/-- Settles O6: an instruction means what its action does, and a particular row brings the action of its generic row. -/
theorem particularRowsActAsGeneric : Obligations.ParticularRowsActAsGeneric := by
  unfold Obligations.ParticularRowsActAsGeneric
  intro i s
  rw [exec_eq_run, exec_eq_run, Action.ofInstr_generic]

/-! ## Status codes (R98) -/

theorem status_iff_high_nibble (b : Byte) : 0xF0 ≤ b ↔ b.extractLsb' 4 4 = 0xF#4 := by
  revert b; decide

/-- The status arm runs at position 0 of a frame, on a status code, and nowhere else (R150, R154). -/
theorem rxArm_status {b : Byte} {s : State} (h : rxArm b s = .status) :
    s.receiving = true ∧ s.receiveCount = 0 ∧ STATUS_MIN ≤ b := by
  unfold rxArm at h
  split at h
  · split at h <;> cases h
  · rename_i hr
    split at h
    · rename_i h0
      cases hk : frameKind s.cfg b <;> simp only [hk] at h <;> cases h
      exact ⟨by simpa using hr, h0, frameKind_status.1 hk⟩
    · split_ifs at h

/-- A status code raises its own callback and no other (R158). -/
theorem armStatus_events {b : Byte} {s t : State} (e : armStatus b s = .next t) :
    t.evTrace = s.evTrace ++ [.onStatus b] := by
  obtain ⟨u, hu, e⟩ := andThen_eq_next.1 e
  cases e
  rw [purgeRx_evTrace, (emit_effect hu).evTrace]
  split <;> simp

/-- A completed frame raises a message or nothing, never a status (R161). -/
theorem complete_events {s t : State} (e : complete s = .next t) (c : Byte) :
    t.evTrace ≠ s.evTrace ++ [.onStatus c] := by
  unfold complete at e
  split at e
  · obtain ⟨p, -, e⟩ := orFault_eq_next.1 e
    obtain ⟨u, hu, e⟩ := andThen_eq_next.1 e
    cases e
    simp [(emit_effect hu).evTrace]
  · cases e
    simp [rejectFrame]

theorem rxTail_events {b : Byte} {s t : State} (e : rxTail b s = .next t) (c : Byte) :
    t.evTrace ≠ s.evTrace ++ [.onStatus c] := by
  unfold rxTail at e
  simp only at e
  split at e
  · exact complete_events e c
  · cases e; simp

/-- No arm but the status arm raises a status callback (R150). -/
theorem rxByte_events_of_not_status {b : Byte} {s t : State} (e : rxByte b s = .next t) (ha : rxArm b s ≠ .status)
    (c : Byte) : t.evTrace ≠ s.evTrace ++ [.onStatus c] := by
  have arm : rxArm b (rxPrologue s) = rxArm b s := rfl
  cases h : rxArm b s <;> simp only [rxByte, arm, h] at e
  case start => cases e; simp [armStart]
  case violation => cases e; simp [armViolation]
  case status => exact absurd h ha
  case overflow => cases e; simp [rejectFrame]
  case length | feature | checksum => exact rxTail_events e c
  case payload =>
    obtain ⟨m, -, e⟩ := orFault_eq_next.1 e
    exact rxTail_events e c

/-- Settles O7: only the status arm raises a status callback, and it runs exactly at position 0 on a byte of 0xF0 or more;
there a smaller byte that the buffer can hold goes to the length arm. -/
theorem statusCodeOnlyAtPositionZero : Obligations.StatusCodeOnlyAtPositionZero := by
  unfold Obligations.StatusCodeOnlyAtPositionZero
  intro b s t _ e
  replace e : rxByte b s = .next t := e
  refine ⟨status_iff_high_nibble b, ⟨fun hev => ?raised, fun ⟨hr, h0, hb⟩ => ?raises⟩, fun hr h0 _ hcap => ?length⟩
  case raised =>
    by_contra hn
    exact rxByte_events_of_not_status e (hn ∘ rxArm_status) b hev
  case raises =>
    rw [rxByte_status hr h0 hb] at e
    exact armStatus_events (s := s.refreshed) e
  case length =>
    rw [rxByte_length hr h0 hcap] at e
    cases e; rfl

/-! ## POLL (R243) -/

/-- A byte that is consumed leaves the last-message stamp at `now`, whatever follows it (R151). -/
theorem feed_cons_stamp {b : Byte} {bs : List Byte} {s t : State} (e : feed (b :: bs) s = .next t) :
    t.lastMessageTime = t.now := by
  obtain ⟨u, hu, e⟩ := andThen_eq_next.1 e
  have h := (rxByte_stream_prologue hu).trans (feed_stream e)
  rw [h.now]
  rcases h.clock with ⟨stamp, -⟩ | ⟨stamp, -⟩ <;> exact stamp

theorem silence_of_stamp {s : State} (h : s.lastMessageTime = s.now) : silence s = 0 := by
  rw [silence, h, elapsed_self]

/-- With no silence since the last byte no frame times out (R220). -/
theorem timeoutCheck_of_no_silence {s : State} (h : silence s = 0) : timeoutCheck s = s := by
  simp [timeoutCheck, timeoutExpired, h]

/-- With no silence since the last byte no HELO is due and the link is not dead (R222, R223). -/
theorem heartbeatTick_of_no_silence {s : State} (h : silence s = 0) : heartbeatTick s = s := by
  simp [heartbeatTick, deadTick, linkDead, heloTick, heloDue, h]

theorem execPoll_configured {s : State} (hc : s.configured = true) :
    execPoll s = andThen (feed s.rxq (s.withQueue [])) fun u => accept 0 (heartbeatTick (timeoutCheck u)) := by
  rw [execPoll, if_pos hc, drain_eq_feed s.rxq s rfl]

/-- Settles O30: the drain consumes the bytes of the queue; after one of them there is no silence for a timer to see. -/
theorem pollIsDrainTimeoutHeartbeat : Obligations.PollIsDrainTimeoutHeartbeat := by
  unfold Obligations.PollIsDrainTimeoutHeartbeat
  refine fun s => ⟨fun hc => ?composed, fun hc hq => ?fresh, fun hc => ?unconfigured⟩
  case composed => exact execPoll_configured hc
  case fresh =>
    refine (execPoll_configured hc).trans ?_
    show andThen (feed s.rxq (s.withQueue [])) _ = andThen (feed s.rxq (s.withQueue [])) _
    obtain ⟨b, bs, hq⟩ := List.exists_cons_of_ne_nil hq
    rw [hq]
    cases e : feed (b :: bs) (s.withQueue []) with
    | next u =>
      have quiet := silence_of_stamp (feed_cons_stamp e)
      simp only [andThen_next, timeoutCheck_of_no_silence quiet, heartbeatTick_of_no_silence quiet]
      rfl
    | fault r => rfl
    | refused r => rfl
  case unconfigured => exact if_neg (by simp [hc])

/-! ## The shorthand sends (R122) -/

/-- On a configured link a send writes one whole frame, purges the send Message and answers (R195). -/
theorem sendMessage_configured {s : State} (hc : s.configured = true) (hl : s.txLength.toNat ≤ s.cfg.cap) :
    sendMessage s = .next (answer ⟨true, 0⟩ (purgeTx (txWriteAll
      (dataBytes s.txLength s.txFeature
        (checksum s.txLength s.txFeature (s.txData.firstBytes s.txLength.toNat))
        (s.txData.firstBytes s.txLength.toNat)) s))) := by
  rw [sendMessage, if_pos hc, emitFrame_eq hl, andThen_next, accept_eq]

/-- TXBYTE at cursor `i` (R192). -/
theorem execTxbyte_at {s : State} {i : Nat} (hi : s.sendCursor.toNat = i) (h : i + 1 ≤ s.cfg.cap) (v : Byte) :
    execTxbyte v s = accept 0 (appended 1 (s.txData.write i v) s) := by
  rw [execTxbyte, hi, if_neg (Nat.not_lt.2 h), memWrite1, if_pos h, orFault_some]

/-- TXWORD at cursor `i` (R193). -/
theorem execTxword_at {s : State} {i : Nat} (hi : s.sendCursor.toNat = i) (h : i + 2 ≤ s.cfg.cap) (w : Half) :
    execTxword w s = accept 0 (appended 2 ((s.txData.write i (hiByte w)).write (i + 1) (loByte w)) s) := by
  rw [execTxword, hi, if_neg (Nat.not_lt.2 h), memWrite2, if_pos h, orFault_some]

/-- `s` with a send Message of feature `f` and of the first `n` bytes of `m`, the cursor at its end. -/
def State.built (s : State) (f : Byte) (n : Nat) (m : Memory) : State :=
  { s with txFeature := f, txData := m, txLength := BitVec.ofNat 8 n, sendCursor := BitVec.ofNat 8 n }

theorem execTxsendb_eq (f v : Byte) (s : State) :
    execTxsendb f v s = sendMessage (s.built f 1 (s.txData.write 0 v)) := by
  rw [execTxsendb, memWrite1, if_pos s.cfg.cap_pos, orFault_some]
  rfl

theorem execTxsendw_eq {s : State} (h : 2 ≤ s.cfg.cap) (f : Byte) (w : Half) :
    execTxsendw f w s = sendMessage (s.built f 2 ((s.txData.write 0 (hiByte w)).write 1 (loByte w))) := by
  rw [execTxsendw, if_neg (Nat.not_lt.2 h), memWrite2, if_pos h, orFault_some]
  rfl

/-- The first append to a purged Message lifts the length with the cursor, so it leaves the Message the shorthand builds. -/
theorem appended_eq_built {s : State} (hl : s.txLength = 0) (hs : s.sendCursor = 0) {n : Nat}
    (hn : 0 < BitVec.ofNat 8 n) (m : Memory) : appended n m s = s.built s.txFeature n m := by
  have hcur : s.sendCursor + BitVec.ofNat 8 n = BitVec.ofNat 8 n := by rw [hs]; exact BitVec.zero_add _
  simp only [appended, hcur, hl, if_pos hn, State.built]

/-- A send after the shorthand's build and one after the spelled-out build leave the same but for the answers. -/
theorem send_built_eq_send_appended {s : State} (hc : s.configured = true) (hp : TxPurged s) {n : Nat} (hn : 0 < n)
    (hcap : n ≤ s.cfg.cap) (f : Byte) (m : Memory) :
    ∃ t u, sendMessage (s.built f n m) = .next t ∧
      sendMessage (answer ⟨true, 0⟩ (appended n m (answer ⟨true, 0⟩ { s with txFeature := f }))) = .next u ∧
      t = { u with rspTrace := t.rspTrace } := by
  have hle := s.cfg.cap_le
  have hnat : (BitVec.ofNat 8 n).toNat = n := by rw [BitVec.toNat_ofNat]; omega
  have hpos : 0 < BitVec.ofNat 8 n := BitVec.lt_def.2 (hnat.symm ▸ hn)
  rw [appended_eq_built (by exact hp.length) (by exact hp.sendCursor) hpos]
  exact ⟨_, _, sendMessage_configured hc (by exact hnat.trans_le hcap),
    sendMessage_configured hc (by exact hnat.trans_le hcap), rfl⟩

/-- Settles O39: on a purged Message both ways build the same Message, at cursor 0, and send it. -/
theorem shorthandSendsWhatTheBuildSends : Obligations.ShorthandSendsWhatTheBuildSends := by
  unfold Obligations.ShorthandSendsWhatTheBuildSends
  intro f v w s hc hp
  have start : s.sendCursor.toNat = 0 := congrArg BitVec.toNat hp.sendCursor
  refine ⟨?byte, fun hcap => ?word⟩
  case byte =>
    obtain ⟨t, u, ht, hu, h⟩ := send_built_eq_send_appended hc hp Nat.one_pos s.cfg.cap_pos f (s.txData.write 0 v)
    exact ⟨t, _, _, u, (execTxsendb_eq f v s).trans ht, rfl,
      execTxbyte_at (by exact start) (by exact s.cfg.cap_pos) v, hu, h⟩
  case word =>
    obtain ⟨t, u, ht, hu, h⟩ := send_built_eq_send_appended hc hp Nat.two_pos hcap f
      ((s.txData.write 0 (hiByte w)).write 1 (loByte w))
    exact ⟨t, _, _, u, (execTxsendw_eq hcap f w).trans ht, rfl,
      execTxword_at (by exact start) (by exact hcap) w, hu, h⟩

end Sys2Proof.Machine

/-! The codec (40_codec.md): the feature set, what a change of frame bytes does to the checksum law and so to the frame,
what purges the receive Message, and the frame TXSEND writes. -/

namespace Sys2Proof

/-! ## Byte sums under a change of bytes (R130, R142) -/

theorem byteSum_set {bs : List Byte} {i : Nat} {y : Byte} (h : bs[i]? = some y) (x : Byte) :
    byteSum (bs.set i x) = byteSum bs + (x - y) := by
  induction bs generalizing i with
  | nil => simp at h
  | cons b bs ih =>
    cases i with
    | zero =>
      obtain rfl : b = y := by simpa using h
      rw [List.set_cons_zero, Machine.byteSum_cons, Machine.byteSum_cons]
      ring
    | succ i =>
      rw [List.set_cons_succ, Machine.byteSum_cons, Machine.byteSum_cons, ih (by simpa using h)]
      ring

theorem byteSum_set_set {bs : List Byte} {i j : Nat} {x y : Byte} (hij : i ≠ j) (hi : bs[i]? = some x)
    (hj : bs[j]? = some y) (u v : Byte) : byteSum ((bs.set i u).set j v) = byteSum bs + (u - x) + (v - y) := by
  rw [byteSum_set ((List.getElem?_set_ne hij).trans hj), byteSum_set hi]

/-- Setting one byte leaves the sum only where it leaves the bytes (R142, first sentence). -/
theorem set_eq_of_byteSum_eq {bs : List Byte} {i : Nat} {x : Byte} (h : byteSum (bs.set i x) = byteSum bs) :
    bs.set i x = bs := by
  cases hi : bs[i]? with
  | none => exact List.set_eq_of_length_le (List.getElem?_eq_none_iff.1 hi)
  | some y =>
    rw [byteSum_set hi] at h
    obtain rfl : x = y := sub_eq_zero.1 (add_eq_left.1 h)
    obtain ⟨hlt, rfl⟩ := List.getElem?_eq_some_iff.1 hi
    exact List.set_getElem_self hlt

/-! ## The frames whose bytes after the length are changed -/

theorem frameSum_eq_add (l f k : Byte) (p : List Byte) : frameSum l f k p = l + byteSum (f :: k :: p) :=
  Machine.byteSum_cons l (f :: k :: p)

/-- The shape of a data frame counts its payload and does not look at its bytes. -/
theorem dataShape_congr (c : Config) (l : Byte) {p q : List Byte} (h : q.length = p.length) :
    dataShape c l q = dataShape c l p := by
  rw [dataShape, dataShape, h]

theorem dataShape_iff {c : Config} {l : Byte} {p : List Byte} :
    dataShape c l p = true ↔ p.length = l.toNat ∧ l.toNat ≤ c.cap := by
  simp only [dataShape, Bool.and_eq_true, decide_eq_true_eq]

theorem data_wf_iff {c : Config} {l f k : Byte} {p : List Byte} :
    (Instr.data l f k p).wf c = true ↔ dataShape c l p = true ∧ frameSum l f k p = 0 := by
  simp only [Instr.wf, Bool.and_eq_true, decide_eq_true_eq]

theorem dataMismatch_wf_iff {c : Config} {l f k : Byte} {p : List Byte} :
    (Instr.dataMismatch l f k p).wf c = true ↔ dataShape c l p = true ∧ frameSum l f k p ≠ 0 := by
  simp only [Instr.wf, Bool.and_eq_true, decide_eq_true_eq]

/-- One byte changed among feature, checksum and payload breaks the checksum law (R142, first sentence). -/
theorem dataMismatch_wf_of_set {c : Config} {l f k f' k' x : Byte} {p p' : List Byte} {j : Nat}
    (h : (Instr.data l f k p).wf c = true) (hset : f' :: k' :: p' = (f :: k :: p).set j x)
    (hne : f' :: k' :: p' ≠ f :: k :: p) : (Instr.dataMismatch l f' k' p').wf c = true := by
  obtain ⟨shape, sum⟩ := data_wf_iff.1 h
  have length : p'.length = p.length := by simpa using congrArg List.length hset
  refine dataMismatch_wf_iff.2 ⟨(dataShape_congr c l length).trans shape, fun sum' => hne ?_⟩
  rw [frameSum_eq_add] at sum sum'
  have same : byteSum ((f :: k :: p).set j x) = byteSum (f :: k :: p) := by
    rw [← hset]
    exact add_left_cancel (sum'.trans sum.symm)
  exact hset.trans (set_eq_of_byteSum_eq same)

/-- Two bytes changed among feature, checksum and payload keep the checksum law where the changes cancel (R142, second
sentence). -/
theorem data_wf_of_set_set {c : Config} {l f k f' k' x y u v : Byte} {p p' : List Byte} {i j : Nat}
    (h : (Instr.data l f k p).wf c = true) (hij : i ≠ j) (hi : (f :: k :: p)[i]? = some x)
    (hj : (f :: k :: p)[j]? = some y) (cancel : (u - x) + (v - y) = 0)
    (hset : f' :: k' :: p' = ((f :: k :: p).set i u).set j v) : (Instr.data l f' k' p').wf c = true := by
  obtain ⟨shape, sum⟩ := data_wf_iff.1 h
  have length : p'.length = p.length := by simpa using congrArg List.length hset
  refine data_wf_iff.2 ⟨(dataShape_congr c l length).trans shape, ?_⟩
  rw [frameSum_eq_add] at sum ⊢
  rw [hset, byteSum_set_set hij hi hj, add_assoc (byteSum _), cancel, add_zero, sum]

end Sys2Proof

namespace Sys2Proof.Machine

/-! ## The purged receive Message (R134) -/

/-- A state with the receive side of a purge is purged. -/
theorem RxPurged.of_withRx (s : State) {t : State} (h : t = t.withRx (purgeRx s)) : RxPurged t := by
  rw [h]
  exact ⟨rfl, rfl, rfl, fun _ => rfl, rfl, rfl, rfl, rfl⟩

theorem rxPurged_rejectFrame (s : State) : RxPurged (rejectFrame s) := .of_withRx s rfl

theorem armStatus_purged {b : Byte} {s t : State} (e : armStatus b s = .next t) : RxPurged t := by
  unfold armStatus at e
  obtain ⟨u, -, e⟩ := andThen_eq_next.1 e
  cases e
  exact .of_withRx u rfl

theorem complete_purged {s t : State} (e : complete s = .next t) : RxPurged t := by
  unfold complete at e
  split at e
  · obtain ⟨p, -, e⟩ := orFault_eq_next.1 e
    obtain ⟨u, -, e⟩ := andThen_eq_next.1 e
    cases e
    exact .of_withRx u rfl
  · cases e
    exact rxPurged_rejectFrame s

/-- A byte stored inside a frame leaves the block inside it, unless it completes the frame (R160, R161). -/
theorem rxTail_receiving_or_purged {b : Byte} {s t : State} (e : rxTail b s = .next t) (hr : s.receiving = true) :
    t.receiving = true ∨ RxPurged t := by
  unfold rxTail at e
  simp only at e
  split at e
  · exact .inr (complete_purged e)
  · cases e
    exact .inl hr

/-- A byte leaves the block inside a frame or purges the receive Message, whatever a handler does (R134, R152). -/
theorem rxByte_receiving_or_purged {b : Byte} {s t : State} (e : rxByte b s = .next t) :
    t.receiving = true ∨ RxPurged t := by
  unfold rxByte at e
  cases ha : rxArm b (rxPrologue s) <;> simp only [ha] at e
  case start => cases e; exact .inl rfl
  case violation => cases e; exact .inr (.of_withRx s rfl)
  case status => exact .inr (armStatus_purged e)
  case overflow => cases e; exact .inr (rxPurged_rejectFrame _)
  case length =>
    obtain ⟨hr, -⟩ := rxArm_length ha
    exact rxTail_receiving_or_purged e hr
  case feature =>
    obtain ⟨hr, -⟩ := rxArm_feature ha
    exact rxTail_receiving_or_purged e hr
  case checksum =>
    obtain ⟨hr, -⟩ := rxArm_checksum ha
    exact rxTail_receiving_or_purged e hr
  case payload =>
    obtain ⟨hr, -⟩ := rxArm_payload ha
    obtain ⟨m, -, e⟩ := orFault_eq_next.1 e
    exact rxTail_receiving_or_purged e hr

/-- TIMEOUTCHK leaves the state as it was or purges the receive Message (R220). -/
theorem timeoutCheck_eq_or_purged (s : State) : timeoutCheck s = s ∨ RxPurged (timeoutCheck s) := by
  unfold timeoutCheck
  split
  · rw [sendStatus_eq]
    exact .inr (.of_withRx s rfl)
  · exact .inl rfl

/-- Settles O26: a byte that does not leave the block inside a frame purged the Message, and so did a TIMEOUTCHK that
changed anything. -/
theorem everyWayToIdlePurges : Obligations.EveryWayToIdlePurges := by
  unfold Obligations.EveryWayToIdlePurges
  rintro s t idle (⟨b, e⟩ | ⟨hr, e⟩)
  · exact (rxByte_receiving_or_purged e).resolve_left (by simp [idle])
  · cases e
    refine (timeoutCheck_eq_or_purged s).resolve_left fun same => ?_
    rw [same, hr] at idle
    cases idle

/-! ## A data frame consumed from IDLE -/

/-- The end of a bad data frame, field by field (R166, R167). -/
theorem rejectFrame_eq (s : State) :
    rejectFrame s = { purgeRx s with
      txTrace := s.txTrace ++ if s.configured then [MARKER, s.cfg.stNack] else []
      failedCount := (s.failedCount + 1) % 2 ^ s.cfg.counterWidth } := by
  rw [rejectFrame, sendStatus_eq]
  rfl

/-- A data frame whose sum is not 0 is rejected (R167). -/
theorem feed_dataMismatch {s : State} (hr : s.receiving = false) {l f k : Byte} {p : List Byte}
    (hwf : (Instr.dataMismatch l f k p).wf s.cfg = true) :
    feed (dataBytes l f k p) s = .next (rejectFrame (s.filled l f k p)) := by
  obtain ⟨shape, sum⟩ := dataMismatch_wf_iff.1 hwf
  obtain ⟨hp, hcap⟩ := dataShape_iff.1 shape
  exact (feed_dataBytes hr hp hcap).trans (complete_mismatch sum)

/-- A data frame whose sum is 0 is answered with ACK and delivered; with no handler nothing runs between the event and
the purge (R162). -/
theorem feed_data {s : State} (hr : s.receiving = false) (hh : s.handlers = []) {l f k : Byte} {p : List Byte}
    (hwf : (Instr.data l f k p).wf s.cfg = true) :
    feed (dataBytes l f k p) s = .next (countSuccess (purgeRx ((s.filled l f k p).calling
      (if s.configured then [MARKER, s.cfg.stAck] else []) (.onMessage l f k p) s.handlers))) := by
  obtain ⟨shape, sum⟩ := data_wf_iff.1 hwf
  obtain ⟨hp, hcap⟩ := dataShape_iff.1 shape
  have payload : (s.filled l f k p).rxData.firstBytes (s.filled l f k p).rxLength.toNat = p :=
    hp ▸ Memory.firstBytes_writeRun p
  rw [feed_dataBytes hr hp hcap, complete_valid (by exact sum) (by exact hcap), payload, sendStatus_eq,
    emit_nil (by exact hh)]
  rfl

/-- Settles O19: the changed frame breaks the checksum law, and a frame that does is rejected. -/
theorem singleByteCorruptionIsRejected : Obligations.SingleByteCorruptionIsRejected := by
  unfold Obligations.SingleByteCorruptionIsRejected
  intro s l f k f' k' p p' j x hc hr hwf hset hne
  have hwf' := dataMismatch_wf_of_set hwf hset hne
  have rejected := feed_dataMismatch hr hwf'
  refine ⟨hwf', _, rejected, rejected, rxPurged_rejectFrame _, ?nack, ?failure, ?frame⟩
  all_goals rw [rejectFrame_eq]
  case nack => exact congrArg (s.txTrace ++ ·) (if_pos hc)
  case failure => rfl
  case frame => rfl

/-- Settles O20: +d and -d cancel, and so do the two differences of an exchange; the changed frame is a valid one. -/
theorem compensatingCorruptionPasses : Obligations.CompensatingCorruptionPasses := by
  unfold Obligations.CompensatingCorruptionPasses
  intro c l f k f' k' d x y p p' i j hwf hij hi hj hset
  have hwf' : (Instr.data l f' k' p').wf c = true :=
    hset.elim (data_wf_of_set_set hwf hij hi hj (by ring)) (data_wf_of_set_set hwf hij hi hj (by ring))
  refine ⟨hwf', fun s hcfg hc hr hh => ?_⟩
  subst hcfg
  exact ⟨_, feed_data hr hh hwf', congrArg (s.txTrace ++ ·) (if_pos hc), rfl, rfl⟩

/-! ## The frame TXSEND writes -/

/-- The generator, as a number (R131). -/
theorem checksum_toNat (l f : Byte) (p : List Byte) :
    (checksum l f p).toNat = (256 - natSum (l :: f :: p) % 256) % 256 := by
  rw [checksum, BitVec.toNat_ofNat, byteSum_toNat, natSum]
  exact Nat.mod_mod _ _

/-- Settles O36: a send on a configured link writes the frame of EmitFrame, and the purge leaves the buffer blank. -/
theorem txsendEmitsFrame : Obligations.TxsendEmitsFrame := by
  unfold Obligations.TxsendEmitsFrame
  intro s hc hl
  refine ⟨_, _, sendMessage_configured hc hl, checksum_toNat _ _ _, ?wire, fun _ => rfl, rfl, rfl⟩
  case wire =>
    rw [List.append_assoc]
    rfl

/-! ## The feature set -/

/-- The feature set drops the feature modulo 16 (R140). -/
theorem featureSet_toNat (f : Byte) : (featureSet f).toNat = f.toNat - f.toNat % 16 := by
  have mask : featureSet f = f >>> 4 <<< 4 := by
    unfold featureSet
    ext i hi
    interval_cases i <;> simp
  rw [mask, BitVec.toNat_shiftLeft, BitVec.toNat_ushiftRight, Nat.shiftLeft_eq, Nat.shiftRight_eq_div_pow]
  omega

/-- Settles O46: both reads answer the masked feature, which is the feature without its value modulo 16. -/
theorem featureSetDropsLowNibble : Obligations.FeatureSetDropsLowNibble := by
  unfold Obligations.FeatureSetDropsLowNibble
  intro s
  rw [← featureSet_toNat, ← featureSet_toNat]
  exact ⟨exec_reg_instr .rxFeatureSet s, exec_reg_instr .txFeatureSet s, fun f => (featureSet_toNat f).symm⟩

end Sys2Proof.Machine

/-! The receive side (41_receive.md): stray bytes, the marker, and the three ways a frame ends (delivered, rejected,
forwarded), each said once of the state in which the frame's last byte leaves the receive side. -/

namespace Sys2Proof.Machine

/-! ## Every byte (R151) -/

/-- Settles O8: the prologue refreshes the liveness state, and whatever follows either leaves it so or does so
again. -/
theorem everyByteRefreshesLiveness : Obligations.EveryByteRefreshesLiveness := by
  unfold Obligations.EveryByteRefreshesLiveness
  intro b s t e
  rcases (rxByte_stream_prologue e).clock with kept | refreshedAgain
  · exact kept
  · exact refreshedAgain

/-! ## IDLE (R152, R153) -/

/-- Settles O9: the arm START purges and opens the frame; the MARKER row is that one byte. -/
theorem markerOpensFrame : Obligations.MarkerOpensFrame := by
  unfold Obligations.MarkerOpensFrame
  intro s hr
  exact ⟨armStart s.refreshed, (feed_singleton MARKER s).trans (rxByte_start hr), rxByte_start hr,
    rfl, rfl, rfl, rfl, rfl, fun _ => rfl, rfl, rfl, rfl⟩

/-- `s` after `n` stray bytes, `n` not 0: purged, refreshed, and `n` failures counted (R153). -/
def State.afterStrays (n : Nat) (s : State) : State :=
  { (purgeRx s).refreshed with failedCount := (s.failedCount + n) % 2 ^ s.cfg.counterWidth }

theorem rxByte_stray {s : State} (hr : s.receiving = false) {b : Byte} (hb : b ≠ MARKER) :
    rxByte b s = .next (s.afterStrays 1) :=
  rxByte_violation hr hb

/-- The counts of two runs add up, for the counter wraps at each (R139). -/
theorem afterStrays_afterStrays (m n : Nat) (s : State) :
    (s.afterStrays m).afterStrays n = s.afterStrays (m + n) := by
  have count : ((s.failedCount + m) % 2 ^ s.cfg.counterWidth + n) % 2 ^ s.cfg.counterWidth =
      (s.failedCount + (m + n)) % 2 ^ s.cfg.counterWidth := by rw [Nat.mod_add_mod, Nat.add_assoc]
  exact congrArg (fun c => { (purgeRx s).refreshed with failedCount := c }) count

/-- A run of stray bytes leaves the block IDLE, and each counts once (R153, R282). -/
theorem feed_strays {bs : List Byte} {s : State} (hr : s.receiving = false) (hne : bs ≠ [])
    (hbs : ∀ b ∈ bs, b ≠ MARKER) : feed bs s = .next (s.afterStrays bs.length) := by
  induction bs generalizing s with
  | nil => exact absurd rfl hne
  | cons b bs ih =>
    obtain ⟨hb, hbs⟩ := List.forall_mem_cons.1 hbs
    show andThen (rxByte b s) (feed bs) = _
    rw [rxByte_stray hr hb, andThen_next]
    by_cases hnil : bs = []
    · subst hnil; rfl
    · rw [ih rfl hnil hbs, afterStrays_afterStrays, Nat.add_comm, List.length_cons]

theorem rxPurged_afterStrays (n : Nat) (s : State) : RxPurged (s.afterStrays n) := .of_withRx s rfl

/-- Settles O10: one byte runs the arm VIOLATION, and a run of them is that arm once for each. -/
theorem strayByteIsCountedAndDiscarded : Obligations.StrayByteIsCountedAndDiscarded := by
  unfold Obligations.StrayByteIsCountedAndDiscarded
  refine fun s hr => ⟨fun b hb => ?byte, fun bs hne hbs => ?run⟩
  case byte =>
    exact ⟨s.afterStrays 1, (feed_singleton b s).trans (rxByte_stray hr hb), rxByte_stray hr hb,
      rfl, fun _ => rfl, rfl, rfl, rfl, rfl⟩
  case run => exact ⟨s.afterStrays bs.length, feed_strays hr hne hbs, rfl, rfl, rfl, rfl, rfl⟩

/-- Settles O11: a POLL that consumes a byte is its drain and its answer, and this drain is a run of stray bytes. -/
theorem strayBytesPurgeRefreshAndCount : Obligations.StrayBytesPurgeRefreshAndCount := by
  unfold Obligations.StrayBytesPurgeRefreshAndCount
  refine ⟨fun b s hr hb => ?byte, fun s hc hr hne hbs => ?poll⟩
  case byte =>
    exact ⟨s.afterStrays 1, (feed_singleton b s).trans (rxByte_stray hr hb), rxPurged_afterStrays 1 s, rfl⟩
  case poll =>
    obtain ⟨-, fresh, -⟩ := pollIsDrainTimeoutHeartbeat s
    have run := fresh hc hne
    rw [feed_strays (by exact hr) hne hbs, andThen_next] at run
    exact ⟨_, run, .of_withRx s rfl, rfl, rfl⟩

/-! ## How a frame ends

In each lemma `m` is where a consumed byte stands before the end of its frame: `s` with a fresh liveness state and
another receive side. -/

/-- The outcome `o` is `s` after a rejected frame: NACK, purge, failure counter (R166, R167). -/
def EndsRejected (s : State) (o : Result) : Prop :=
  ∃ t, o = .next t ∧ RxPurged t ∧
    t.txTrace = s.txTrace ++ (if s.configured then [MARKER, s.cfg.stNack] else []) ∧
    t.failedCount = (s.failedCount + 1) % 2 ^ s.cfg.counterWidth ∧
    t = { s.refreshed.withRx t with txTrace := t.txTrace, failedCount := t.failedCount }

/-- The outcome `o` is `s` after a message was delivered: ACK, callback, purge, success counter (R162). -/
def EndsDelivered (s : State) (l f k : Byte) (p : List Byte) (o : Result) : Prop :=
  ∃ t, o = .next t ∧ RxPurged t ∧
    t.txTrace = s.txTrace ++ (if s.configured then [MARKER, s.cfg.stAck] else []) ∧
    t.evTrace = s.evTrace ++ [.onMessage l f k p] ∧
    t.successCount = (s.successCount + 1) % 2 ^ s.cfg.counterWidth ∧
    t = { s.refreshed.withRx t with txTrace := t.txTrace, evTrace := t.evTrace, successCount := t.successCount }

/-- The outcome `o` is `s` after a status code was forwarded: ACK for HELO, callback, purge (R158, R163). -/
def EndsForwarded (s : State) (code : Byte) (o : Result) : Prop :=
  ∃ t, o = .next t ∧ RxPurged t ∧
    t.txTrace = s.txTrace ++ (if code = ST_HELO ∧ s.configured = true then [MARKER, s.cfg.stAck] else []) ∧
    t.evTrace = s.evTrace ++ [.onStatus code] ∧
    t = { s.refreshed.withRx t with txTrace := t.txTrace, evTrace := t.evTrace }

theorem rejectFrame_endsRejected {s m : State} (hm : m = s.refreshed.withRx m) :
    EndsRejected s (.next (rejectFrame m)) := by
  refine ⟨_, rfl, rxPurged_rejectFrame m, ?_⟩
  rw [rejectFrame_eq, hm]
  exact ⟨rfl, rfl, rfl⟩

theorem complete_endsRejected {s m : State} (hm : m = s.refreshed.withRx m) (hsum : m.acc ≠ 0) :
    EndsRejected s (complete m) := by
  rw [complete_mismatch hsum]
  exact rejectFrame_endsRejected hm

theorem complete_endsDelivered {s m : State} (hm : m = s.refreshed.withRx m) (hsum : m.acc = 0)
    (hl : m.rxLength.toNat ≤ s.cfg.cap) (hh : s.handlers = []) :
    EndsDelivered s m.rxLength m.rxFeature m.rxChecksum (m.rxData.firstBytes m.rxLength.toNat) (complete m) := by
  have hcfg : m.cfg = s.cfg := by rw [hm]; rfl
  have hnone : (sendStatus m.cfg.stAck m).handlers = [] := by rw [sendStatus_handlers, hm]; exact hh
  rw [complete_valid hsum (hcfg ▸ hl), emit_nil hnone, andThen_next, sendStatus_eq]
  refine ⟨_, rfl, .of_withRx m rfl, ?_⟩
  rw [hm]
  exact ⟨rfl, rfl, rfl, rfl⟩

/-- With no handler nothing runs between the status callback and the purge (R158, R163). -/
theorem armStatus_nil {s : State} (hh : s.handlers = []) (code : Byte) :
    armStatus code s = .next (purgeRx (s.calling
      (if code = ST_HELO ∧ s.configured = true then [MARKER, s.cfg.stAck] else []) (.onStatus code) s.handlers)) := by
  unfold armStatus
  by_cases hb : code = ST_HELO
  · simp only [hb, if_true, true_and]
    rw [emit_nil (by simpa using hh), andThen_next, sendStatus_eq]
    rfl
  · simp only [hb, if_false, false_and]
    rw [emit_nil hh, andThen_next, State.calling, List.append_nil]

theorem armStatus_endsForwarded {s m : State} (hm : m = s.refreshed.withRx m) (hh : s.handlers = []) (code : Byte) :
    EndsForwarded s code (armStatus code m) := by
  have hnone : m.handlers = [] := by rw [hm]; exact hh
  rw [armStatus_nil hnone]
  refine ⟨_, rfl, .of_withRx m rfl, ?_⟩
  rw [hm]
  exact ⟨rfl, rfl, rfl⟩

/-! ## Bytes inside a frame (R155 to R162, R166, R167) -/

/-- Settles O12: each clause is the arm its position and its byte select, and where the frame ends, the way it ends. -/
theorem headerBytesAreStored : Obligations.HeaderBytesAreStored := by
  unfold Obligations.HeaderBytesAreStored
  intro b s hr
  refine ⟨fun h0 hcap => ?length, fun h0 hcap hb => ?overlong, fun h0 hb hh => ?status, fun h1 => ?feature,
    fun h2 hl => ?checksum, fun h2 hl hsum hh => ?delivered, fun h2 hl hsum => ?rejected⟩
  case length => exact rxByte_length hr h0 hcap
  case overlong =>
    show EndsRejected s (rxByte b s)
    rw [rxByte_overflow hr h0 (BitVec.not_le.2 hb) hcap]
    exact rejectFrame_endsRejected rfl
  case status =>
    show EndsForwarded s b (rxByte b s)
    rw [rxByte_status hr h0 hb]
    exact armStatus_endsForwarded rfl hh b
  case feature => exact rxByte_feature hr h1 b
  case checksum => exact rxByte_checksum hr h2 hl b
  case delivered =>
    have empty : (s.checksumStored b).rxLength = 0 := hl
    have delivered := complete_endsDelivered (m := s.checksumStored b) rfl hsum (by simp [empty]) hh
    rw [← rxByte_checksum_last hr h2 hl, empty] at delivered
    exact delivered
  case rejected =>
    show EndsRejected s (rxByte b s)
    rw [rxByte_checksum_last hr h2 hl]
    exact complete_endsRejected rfl hsum

theorem Memory.firstBytes_write_eq {m : Memory} (h : m.wf = true) (i : Nat) (v : Byte) (n : Nat) :
    (m.write i v).firstBytes n = (List.range n).map fun j => if j = i then v else m.read j :=
  List.map_congr_left fun j _ => Memory.read_write h i v j

/-- Settles O13: an earlier payload byte is stored, and the last one brings the frame to completion. -/
theorem payloadByteIsStored : Obligations.PayloadByteIsStored := by
  unfold Obligations.PayloadByteIsStored
  intro b s hr hw h3 hcap
  have last (hn : s.receiveCount.toNat = s.rxLength.toNat + 2) : rxByte b s = complete (s.payloadStored b) :=
    rxByte_payload_last hr h3 (congrArg (· + 1) hn) hcap b
  refine ⟨fun hn => ?stored, fun hn hsum hh => ?delivered, fun hn hsum => ?rejected⟩
  case stored =>
    exact ⟨s.payloadStored b, rxByte_payload hr h3 hn hcap b, Memory.read_write hw _ b, rfl,
      count_succ (c := s.cfg) (by omega), rfl⟩
  case delivered =>
    show EndsDelivered s s.rxLength s.rxFeature s.rxChecksum _ (rxByte b s)
    rw [last hn, ← Memory.firstBytes_write_eq hw]
    exact complete_endsDelivered (m := s.payloadStored b) rfl hsum hcap hh
  case rejected =>
    show EndsRejected s (rxByte b s)
    rw [last hn]
    exact complete_endsRejected rfl hsum

/-! ## Whole frames from IDLE (R162 to R167) -/

/-- Settles O14: the frame comes to completion with its fields in place, and a sum of 0 delivers it. -/
theorem validDataFrameIsDelivered : Obligations.ValidDataFrameIsDelivered := by
  unfold Obligations.ValidDataFrameIsDelivered
  intro s l f k p hc hr hh hwf
  refine ⟨_, feed_data hr hh hwf, .of_withRx s rfl, ?ack, rfl, rfl, rfl⟩
  case ack => exact congrArg (s.txTrace ++ ·) (if_pos hc)

/-- Settles O15: a frame that breaks the checksum law is rejected, and a rejection raises no callback. -/
theorem mismatchedDataFrameIsRejected : Obligations.MismatchedDataFrameIsRejected := by
  unfold Obligations.MismatchedDataFrameIsRejected
  intro s l f k p hc hr hwf
  refine ⟨_, feed_dataMismatch hr hwf, rfl, fun _ => rfl, ?_⟩
  rw [rejectFrame_eq]
  exact ⟨congrArg (s.txTrace ++ ·) (if_pos hc), rfl, rfl, rfl, rfl⟩

/-- Settles O17: the frame is rejected at its length byte, the second. -/
theorem overlongFrameIsRefused : Obligations.OverlongFrameIsRefused := by
  unfold Obligations.OverlongFrameIsRefused
  intro s l hc hr hcap hl
  obtain ⟨t, e, purged, nack, failure, frame⟩ :=
    rejectFrame_endsRejected (s := s) (m := armStart s.refreshed) rfl
  rw [if_pos hc] at nack
  exact ⟨t, (feed_overflow hr (BitVec.not_le.2 hl) hcap).trans e, purged, nack, failure, frame⟩

/-- Settles O18: the status rows are one frame, which the status arm forwards; the only code it answers is HELO's. -/
theorem statusFramesAreForwarded : Obligations.StatusFramesAreForwarded := by
  unfold Obligations.StatusFramesAreForwarded
  intro s c hc hr hh
  obtain ⟨t, e, purged, ack, event, frame⟩ :=
    armStatus_endsForwarded (s := s) (m := armStart s.refreshed) rfl hh (statusCode c)
  have run : feed (statusBytes (statusCode c)) s = .next t := (feed_statusBytes hr (statusCode_ge c)).trans e
  simp only [statusCode_eq_helo, hc, and_true] at ack
  refine ⟨t, run, run, run, run, run, fun helo => ?helo, purged, event, ack, frame⟩
  case helo =>
    rw [(statusCode_eq_helo c).2 helo] at run
    exact run

end Sys2Proof.Machine

/-! The send assembler (42_send.md): what an append leaves, what a send leaves on a configured link and on one that is not,
and the round trip of a frame from a sender to a receiver. -/

namespace Sys2Proof.Machine

/-! ## The bytes of a half word (R60) -/

theorem hiByte_eq_ofNat (w : Half) : hiByte w = BitVec.ofNat 8 (w.toNat / 256) := by
  apply BitVec.eq_of_toNat_eq
  rw [hiByte, BitVec.extractLsb'_toNat, BitVec.toNat_ofNat, Nat.shiftRight_eq_div_pow]

theorem loByte_eq_ofNat (w : Half) : loByte w = BitVec.ofNat 8 (w.toNat % 256) := by
  apply BitVec.eq_of_toNat_eq
  rw [loByte, BitVec.extractLsb'_toNat, BitVec.toNat_ofNat, Nat.shiftRight_zero, Nat.mod_mod]

/-! ## What an append leaves (R192, R193, R199) -/

/-- Two neighbouring writes, as TXWORD and TXSENDW make them (R60). -/
theorem Memory.read_write_write {m : Memory} (h : m.wf = true) (i : Nat) (x y : Byte) (a : Nat) :
    ((m.write i x).write (i + 1) y).read a = if a = i then x else if a = i + 1 then y else m.read a := by
  rw [Memory.read_write (Memory.write_wf h i x), Memory.read_write h]
  by_cases ha : a = i
  · rw [if_neg (by omega), if_pos ha, if_pos ha]
  · rw [if_neg ha, if_neg ha]

theorem appended_sendCursor {s : State} {n : Nat} (h : s.sendCursor.toNat + n ≤ s.cfg.cap) (m : Memory) :
    (appended n m s).sendCursor.toNat = s.sendCursor.toNat + n := cursor_add_toNat h

/-- The length is lifted to the cursor and never lowered (R199). -/
theorem appended_txLength {s : State} {n : Nat} (h : s.sendCursor.toNat + n ≤ s.cfg.cap) (m : Memory) :
    (appended n m s).txLength.toNat = max s.txLength.toNat (s.sendCursor.toNat + n) := by
  have cursor := cursor_add_toNat h
  show (if s.txLength < s.sendCursor + BitVec.ofNat 8 n then s.sendCursor + BitVec.ofNat 8 n else s.txLength).toNat = _
  rw [← cursor]
  split
  case isTrue below => exact (Nat.max_eq_right (Nat.le_of_lt below)).symm
  case isFalse above => exact (Nat.max_eq_left (Nat.le_of_not_lt above)).symm

/-- Settles O32: TXBYTE is an append of one byte at the cursor. -/
theorem txbyteAppends : Obligations.TxbyteAppends := by
  unfold Obligations.TxbyteAppends
  intro v s hw hcap
  refine ⟨_, execTxbyte_at rfl hcap v, Memory.read_write hw _ v, ?cursor, ?length, rfl⟩
  case cursor => rw [answer_sendCursor, appended_sendCursor hcap]
  case length => rw [answer_txLength, appended_txLength hcap]

/-- Settles O33: TXWORD is an append of two bytes at the cursor, the high one first. -/
theorem txwordAppendsBigEndian : Obligations.TxwordAppendsBigEndian := by
  unfold Obligations.TxwordAppendsBigEndian
  intro w s hw hcap
  rw [← hiByte_eq_ofNat, ← loByte_eq_ofNat]
  refine ⟨_, execTxword_at rfl hcap w, Memory.read_write_write hw _ _ _, ?cursor, ?length, rfl⟩
  case cursor => rw [answer_sendCursor, appended_sendCursor hcap]
  case length => rw [answer_txLength, appended_txLength hcap]

/-- Two appends of one byte move the cursor and lift the length as one append of two does; an answer may stand between
them. -/
theorem appended_two {s : State} (h : s.sendCursor.toNat + 2 ≤ s.cfg.cap) (r : Response) (m m' : Memory) :
    appended 2 m s = { appended 1 m (answer r (appended 1 m' s)) with rspTrace := s.rspTrace } := by
  have between := appended_sendCursor (s := s) (n := 1) (by omega) m'
  have fits : (appended 1 m' s).sendCursor.toNat + 1 ≤ s.cfg.cap := by omega
  have cursor : (appended 2 m s).sendCursor = (appended 1 m (answer r (appended 1 m' s))).sendCursor :=
    (BitVec.add_assoc s.sendCursor 1 1).symm
  have length : (appended 2 m s).txLength = (appended 1 m (answer r (appended 1 m' s))).txLength := by
    apply BitVec.eq_of_toNat_eq
    rw [appended_txLength h, appended_txLength (by exact fits), answer_txLength, answer_sendCursor, between,
      appended_txLength (by omega)]
    omega
  show { appended 2 m s with sendCursor := (appended 2 m s).sendCursor, txLength := (appended 2 m s).txLength } = _
  rw [cursor, length]
  rfl

/-- Settles O34: both commands write the high byte at the cursor and the low byte after it, and append two bytes. -/
theorem txwordIsTwoTxbytes : Obligations.TxwordIsTwoTxbytes := by
  unfold Obligations.TxwordIsTwoTxbytes
  intro w s hcap
  rw [← hiByte_eq_ofNat, ← loByte_eq_ofNat]
  have cursor (m : Memory) : (answer ⟨true, 0⟩ (appended 1 m s)).sendCursor.toNat = s.sendCursor.toNat + 1 := by
    rw [answer_sendCursor, appended_sendCursor (by omega)]
  refine ⟨_, _, _, execTxword_at rfl hcap w, execTxbyte_at rfl (by omega) (hiByte w),
    execTxbyte_at (cursor _) (by exact hcap) (loByte w), ?_⟩
  rw [appended_two hcap ⟨true, 0⟩ _ (s.txData.write s.sendCursor.toNat (hiByte w))]
  rfl

/-- Settles O35: the scan's result is at most CAP, so it fits a byte, and the scan stops at the least blank index. -/
theorem txlenautoFindsFirstBlank : Obligations.TxlenautoFindsFirstBlank := by
  unfold Obligations.TxlenautoFindsFirstBlank
  intro s
  have range := s.cfg.cap_le
  have bound := firstBlank_le s.cfg.cap s.txData
  obtain ⟨-, -, before, found⟩ := Memory.firstBlankFrom_spec s.txData 0 s.cfg.cap
  rw [Nat.zero_add] at found
  have fits : (BitVec.ofNat 8 (s.txData.firstBlank s.cfg.cap)).toNat = s.txData.firstBlank s.cfg.cap :=
    Nat.mod_eq_of_lt (by omega)
  refine ⟨_, accept_eq _ _, ?_⟩
  simp only [answer_txLength, fits]
  exact ⟨bound, fun i => before i (Nat.zero_le i), found, rfl⟩

/-! ## The purged send Message (R135) -/

/-- A state with the send side of a purge is purged. -/
theorem TxPurged.of_withTx (s : State) {t : State} (h : t = t.withTx (purgeTx s)) : TxPurged t := by
  rw [h]
  exact ⟨rfl, rfl, rfl, fun _ => rfl, rfl⟩

theorem sendMessage_purged {s t : State} (hc : s.configured = true) (e : sendMessage s = .next t) : TxPurged t := by
  rw [sendMessage, if_pos hc] at e
  obtain ⟨u, hu, e⟩ := andThen_eq_next.1 e
  obtain ⟨p, -, hu⟩ := orFault_eq_next.1 hu
  cases hu
  cases e
  exact .of_withTx s rfl

/-- Settles O40: TXPURGE is the purge and its answer, and a send on a configured link ends with the same purge. -/
theorem txpurgeClearsSendMessage : Obligations.TxpurgeClearsSendMessage := by
  unfold Obligations.TxpurgeClearsSendMessage
  exact fun s => ⟨⟨_, rfl, .of_withTx s rfl, rfl⟩, fun _ hc e => sendMessage_purged hc e⟩

/-- Settles O31: TXFEATURE writes the feature alone, so the last one wins, and the purge writes 0. -/
theorem txfeatureSetsFeature : Obligations.TxfeatureSetsFeature := by
  unfold Obligations.TxfeatureSetsFeature
  exact fun f g s => ⟨rfl, ⟨_, rfl, rfl, rfl⟩, _, rfl, rfl⟩

/-! ## The shorthand sends (R196, R197) -/

/-- A built Message, sent on a configured link: one frame of its `n` bytes, and a purge (R137). -/
theorem sendMessage_built {s : State} (hc : s.configured = true) {n : Nat} (hn : n ≤ s.cfg.cap) (f : Byte) (m : Memory) :
    ∃ t k, sendMessage (s.built f n m) = .next t ∧
      k.toNat = (256 - natSum (BitVec.ofNat 8 n :: f :: m.firstBytes n) % 256) % 256 ∧
      t.txTrace = s.txTrace ++ dataBytes (BitVec.ofNat 8 n) f k (m.firstBytes n) ∧
      TxPurged t ∧ t = ({ s with txTrace := t.txTrace }.withTx t).answered ⟨true, 0⟩ := by
  have range := s.cfg.cap_le
  have length : (s.built f n m).txLength.toNat = n := Nat.mod_eq_of_lt (by omega)
  have sent := sendMessage_configured (s := s.built f n m) hc (length.trans_le hn)
  rw [length] at sent
  exact ⟨_, _, sent, checksum_toNat _ _ _, rfl, .of_withTx s rfl, rfl⟩

/-- A Message that differs from `s` on the send side alone, sent where the link is not configured: it is kept and
nothing is written (R195). -/
theorem sendMessage_unconfigured {s u : State} (hu : u = s.withTx u) (hc : s.configured = false) :
    sendMessage u = .next ((s.withTx u).answered ⟨true, 0⟩) := by
  have hcu : ¬ u.configured = true := by
    rw [hu]
    simp [State.withTx, hc]
  rw [sendMessage, if_neg hcu, accept_eq]
  exact congrArg (fun v => Host.Outcome.next (answer ⟨true, 0⟩ v)) hu

/-- Settles O37: TXSENDB sends the Message it builds, the one byte at index 0. -/
theorem txsendbBuildsAndSends : Obligations.TxsendbBuildsAndSends := by
  unfold Obligations.TxsendbBuildsAndSends
  intro f v s hw
  refine ⟨fun hc => ?sent, fun hc => ?kept⟩
  case sent =>
    have payload : (s.txData.write 0 v).firstBytes 1 = [v] := Memory.firstBytes_write_eq hw 0 v 1
    have sent := sendMessage_built hc s.cfg.cap_pos f (s.txData.write 0 v)
    rw [payload, ← execTxsendb_eq] at sent
    exact sent
  case kept =>
    exact ⟨_, (execTxsendb_eq f v s).trans (sendMessage_unconfigured rfl hc), rfl, rfl, rfl, rfl,
      Memory.read_write hw 0 v, rfl⟩

/-- Settles O38: TXSENDW sends the Message it builds, the high byte at index 0 and the low byte at index 1. -/
theorem txsendwBuildsAndSends : Obligations.TxsendwBuildsAndSends := by
  unfold Obligations.TxsendwBuildsAndSends
  intro f w s hw
  rw [← hiByte_eq_ofNat, ← loByte_eq_ofNat]
  have read := Memory.read_write_write hw 0 (hiByte w) (loByte w)
  refine ⟨fun hcap hc => ?sent, fun hcap hc => ?kept, fun hcap => ?rejected⟩
  case sent =>
    have payload : ((s.txData.write 0 (hiByte w)).write 1 (loByte w)).firstBytes 2 = [hiByte w, loByte w] :=
      congrArg₂ (fun x y => [x, y]) (read 0) (read 1)
    have sent := sendMessage_built hc hcap f ((s.txData.write 0 (hiByte w)).write 1 (loByte w))
    rw [payload, ← execTxsendw_eq hcap] at sent
    exact sent
  case kept =>
    exact ⟨_, (execTxsendw_eq hcap f w).trans (sendMessage_unconfigured rfl hc), rfl, rfl, rfl, rfl, read, rfl⟩
  case rejected => exact if_pos hcap

/-! ## Host-side errors (R280, R284) -/

/-- A command that overflows a buffer is rejected (R200, R244, R245). -/
theorem handlerCommand_overflow {c : Command} {s : State} (h : errorOfCommand c s = some .bufferOverflow) :
    handlerCommand c s = reject s := by
  cases c <;> simp only [errorOfCommand] at h
  case txbyte v | txword w | rxgetb | rxgetw => exact if_pos (Option.ite_none_right_eq_some.1 h).1
  case txsendw f w =>
    split at h
    case isTrue small => exact if_pos small
    case isFalse => cases (Option.ite_none_left_eq_some.1 h).2
  case txsend | txsendb => cases (Option.ite_none_left_eq_some.1 h).2
  all_goals cases h

/-- A command that finds the link unconfigured is one of the three sends, and sends a Message it has built, if any
(R195). -/
theorem handlerCommand_linkNotConfigured {c : Command} {s : State} (h : errorOfCommand c s = some .linkNotConfigured) :
    s.configured = false ∧ ∃ u, handlerCommand c s = sendMessage u ∧ u = s.withTx u := by
  cases c <;> simp only [errorOfCommand] at h
  case txsend => exact ⟨by simpa using h, s, rfl, rfl⟩
  case txsendb f v => exact ⟨by simpa using h, _, execTxsendb_eq f v s, rfl⟩
  case txsendw f w =>
    split at h
    case isTrue => cases h
    case isFalse fits => exact ⟨by simpa using h, _, execTxsendw_eq (Nat.not_lt.1 fits) f w, rfl⟩
  case txbyte | txword | rxgetb | rxgetw => cases (Option.ite_none_right_eq_some.1 h).2
  all_goals cases h

/-- Settles O47: an overflow is a rejection, and a send on an unconfigured link keeps its Message and writes nothing. -/
theorem hostSideErrorsAreContained : Obligations.HostSideErrorsAreContained := by
  unfold Obligations.HostSideErrorsAreContained
  refine ⟨fun c s => ⟨fun h => ?overflow, fun h => ?unconfigured⟩, fun s hc => ?txsend⟩
  case overflow =>
    rw [exec_ofCommand (by rintro rfl; cases h)]
    exact handlerCommand_overflow h
  case unconfigured =>
    obtain ⟨hc, u, run, hu⟩ := handlerCommand_linkNotConfigured h
    rw [exec_ofCommand (by rintro rfl; cases h), run]
    exact ⟨_, sendMessage_unconfigured hu hc, rfl, rfl⟩
  case txsend => exact sendMessage_unconfigured rfl hc

/-! ## The round trip (R202) -/

/-- The frame of a send within the capacity of both ends is a valid one (R132). -/
theorem data_wf_checksum {c : Config} {l : Byte} (h : l.toNat ≤ c.cap) (f : Byte) (m : Memory) :
    (Instr.data l f (checksum l f (m.firstBytes l.toNat)) (m.firstBytes l.toNat)).wf c = true :=
  data_wf_iff.2 ⟨dataShape_iff.2 ⟨Memory.firstBytes_length m _, h⟩, frameSum_checksum _ _ _⟩

/-- A POLL in IDLE whose queue is one valid frame delivers it, and no timer acts after it (R162, R243). -/
theorem poll_data {s : State} (hc : s.configured = true) (hr : s.receiving = false) (hh : s.handlers = [])
    {l f k : Byte} {p : List Byte} (hq : s.rxq = dataBytes l f k p) (hwf : (Instr.data l f k p).wf s.cfg = true) :
    ∃ t, exec .poll s = .next t ∧ RxPurged t ∧ t.evTrace = s.evTrace ++ [.onMessage l f k p] ∧
      t.txTrace = s.txTrace ++ [MARKER, s.cfg.stAck] ∧ t.failedCount = s.failedCount ∧ t.rxq = [] := by
  obtain ⟨-, fresh, -⟩ := pollIsDrainTimeoutHeartbeat s
  have run := fresh hc (by rw [hq]; exact List.cons_ne_nil _ _)
  rw [hq, feed_data (by exact hr) (by exact hh) (by exact hwf), andThen_next] at run
  exact ⟨_, run, .of_withRx s rfl, rfl, congrArg (s.txTrace ++ ·) (if_pos hc), rfl, rfl⟩

/-- Settles O21: the wire of the send is one frame, which is valid at the receiver, and a POLL delivers it. -/
theorem sentFrameRoundTrips : Obligations.SentFrameRoundTrips := by
  unfold Obligations.SentFrameRoundTrips
  intro a b a' wire ha hl e hwire hb hr hh hcap hq
  have sent : sendMessage a = .next a' := e
  rw [sendMessage_configured ha hl] at sent
  cases sent
  have frame := List.append_cancel_left hwire
  obtain ⟨b', run, purged, event, ack, failed, empty⟩ :=
    poll_data hb hr hh (hq.trans frame.symm) (data_wf_checksum (hcap ▸ hl) a.txFeature a.txData)
  exact ⟨b', _, run, checksum_toNat _ _ _, event, ack, failed, empty, purged⟩

end Sys2Proof.Machine

/-! The timers (43_heartbeat.md): the time tests of TIMEOUTCHK, HBTICK and ISALIVE as comparisons of integer differences, and
what each of the three does on either side of its tests. -/

namespace Sys2Proof.Machine

/-! ## The time tests (R11, R133) -/

/-- The model's wrap-safe elapsed time is the time difference the statements speak of. -/
theorem timeDiff_eq_elapsed (c : Config) (a b : Nat) : timeDiff c a b = elapsed c a b := (elapsed_eq_emod c a b).symm

theorem timeDiff_eq_silence (s : State) : timeDiff s.cfg s.now s.lastMessageTime = silence s := timeDiff_eq_elapsed _ _ _

theorem timeoutExpired_iff {s : State} : timeoutExpired s = true ↔
    s.configured = true ∧ s.receiving = true ∧ (s.cfg.timeoutMs : Int) < timeDiff s.cfg s.now s.lastMessageTime := by
  rw [timeDiff_eq_silence, Int.ofNat_lt, ← and_assoc]
  simp only [timeoutExpired, Bool.and_eq_true, decide_eq_true_eq]

theorem heartbeatActive_iff {s : State} :
    heartbeatActive s = true ↔ s.hbInterval ≠ 0 ∧ s.configured = true ∧ s.heartbeatDead = false := by
  simp only [heartbeatActive, Bool.and_eq_true, decide_eq_true_eq, Bool.not_eq_true', and_assoc]

theorem heloDue_silence_iff {s : State} : heloDue (silence s) s = true ↔
    (s.hbInterval : Int) < timeDiff s.cfg s.now s.lastMessageTime ∧
      (s.hbInterval : Int) < timeDiff s.cfg s.now s.lastHeartbeatTime := by
  rw [timeDiff_eq_silence, timeDiff_eq_elapsed, Int.ofNat_lt, Int.ofNat_lt]
  simp only [heloDue, Bool.and_eq_true, decide_eq_true_eq]

/-- The product of five intervals is not reduced (R141). -/
theorem linkDead_silence_iff {s : State} :
    linkDead (silence s) s = true ↔ 5 * (s.hbInterval : Int) < timeDiff s.cfg s.now s.lastMessageTime := by
  rw [timeDiff_eq_silence, linkDead, DEAD_FACTOR, decide_eq_true_eq]
  omega

theorem linkAlive_iff {s : State} :
    linkAlive s = true ↔ timeDiff s.cfg s.now s.lastMessageTime < (s.hbInterval : Int) := by
  rw [timeDiff_eq_silence, Int.ofNat_lt, linkAlive, decide_eq_true_eq]

/-! ## TIMEOUTCHK (R220) -/

/-- A TIMEOUTCHK past the limit purges the receive Message and sends NACK. -/
theorem timeoutCheck_expired {s : State} (h : timeoutExpired s = true) :
    timeoutCheck s = { purgeRx s with txTrace := s.txTrace ++ [MARKER, s.cfg.stNack] } := by
  rw [timeoutCheck, if_pos h, sendStatus_eq, purgeRx_configured, if_pos (configured_of_timeoutExpired h)]
  rfl

/-- No frame times out in IDLE. -/
theorem timeoutCheck_idle {s : State} (hr : s.receiving = false) : timeoutCheck s = s :=
  if_neg (by simp [timeoutExpired, hr])

/-- Settles O27: past the limit a TIMEOUTCHK purges and sends NACK, and the next one finds the block in IDLE; up to the
limit it does nothing. -/
theorem frameTimeoutIsStrict : Obligations.FrameTimeoutIsStrict := by
  unfold Obligations.FrameTimeoutIsStrict
  refine fun s => ⟨fun hc hr late => ?expired, fun h => ?held⟩
  case expired =>
    have expired := timeoutExpired_iff.2 ⟨hc, hr, late⟩
    have run : exec .timeoutchk s = _ := congrArg Host.Outcome.next (timeoutCheck_expired expired)
    exact ⟨if_pos expired, _, run, rfl, fun _ => rfl, rfl, rfl, congrArg Host.Outcome.next (timeoutCheck_idle rfl)⟩
  case held =>
    have held := mt timeoutExpired_iff.1 h
    exact ⟨if_neg held, congrArg Host.Outcome.next (if_neg held)⟩

/-! ## HBTICK (R221 to R224) -/

/-- A due HELO is written and its time stamped (R222). -/
theorem heloTick_due {e : Nat} {s : State} (hc : s.configured = true) (h : heloDue e s = true) :
    heloTick e s = { s with txTrace := s.txTrace ++ [MARKER, ST_HELO], lastHeartbeatTime := s.now } := by
  rw [heloTick, if_pos h, sendStatus_eq, if_pos hc]

theorem heloTick_heartbeatDead (e : Nat) (s : State) : (heloTick e s).heartbeatDead = s.heartbeatDead := by
  unfold heloTick
  split
  · exact sendStatus_heartbeatDead _ _
  · rfl

/-- The dead test of a tick reads nothing its HELO changed (R224): on a live link the mark is the test's outcome. -/
theorem heartbeatTick_active {s : State} (h : heartbeatActive s = true) :
    heartbeatTick s = { heloTick (silence s) s with heartbeatDead := linkDead (silence s) s } := by
  obtain ⟨-, -, live⟩ := heartbeatActive_iff.1 h
  have frame := (heloTick_effect (silence s) s).frame
  have interval : linkDead (silence s) (heloTick (silence s) s) = linkDead (silence s) s := by rw [frame]; rfl
  rw [heartbeatTick, if_pos h, deadTick, interval]
  split
  case isTrue dead => rw [dead]
  case isFalse alive => rw [Bool.eq_false_iff.2 alive, ← live, ← heloTick_heartbeatDead (silence s) s]

/-- Settles O28: an inactive tick does nothing; an active one is its HELO, due or not, with the outcome of the dead test. -/
theorem heartbeatTickSendsAndMarks : Obligations.HeartbeatTickSendsAndMarks := by
  unfold Obligations.HeartbeatTickSendsAndMarks
  refine fun s => ⟨fun idle => ?inactive, fun hi hc live => ?active⟩
  case inactive =>
    refine congrArg Host.Outcome.next (if_neg ?_)
    rcases idle with h | h | h <;> simp [heartbeatActive_iff, h]
  case active =>
    have tick := heartbeatTick_active (heartbeatActive_iff.2 ⟨hi, hc, live⟩)
    refine ⟨_, rfl, fun due => ?helo, fun quiet => ?none, ?dead, (heartbeatTick_effect s).frame⟩
    case helo =>
      rw [tick, heloTick_due hc (heloDue_silence_iff.2 due)]
      exact ⟨rfl, rfl⟩
    case none =>
      rw [tick, heloTick, if_neg (mt heloDue_silence_iff.1 quiet)]
      exact ⟨rfl, rfl⟩
    case dead =>
      rw [tick]
      exact linkDead_silence_iff

/-! ## ISALIVE (R225) -/

/-- Settles O29: the answer is the outcome of the liveness test as a number. -/
theorem isaliveAnswersTheQuery : Obligations.IsaliveAnswersTheQuery := by
  unfold Obligations.IsaliveAnswersTheQuery
  intro s
  have value : (linkAlive s).toNat = if timeDiff s.cfg s.now s.lastMessageTime < (s.hbInterval : Int) then 1 else 0 := by
    simp only [← linkAlive_iff]
    cases linkAlive s <;> rfl
  rw [← value]
  rfl

end Sys2Proof.Machine

/-! The host port (44_host.md): the commands that set up and read, commands inside a handler, and the one refusal of the
model, POLL in a handler. -/

namespace Sys2Proof

/-- The selectors the table of R41 lists. -/
def Reg.selectors : List Byte :=
  [0x00, 0x01, 0x02, 0x03, 0x04, 0x05, 0x10, 0x11, 0x12, 0x13, 0x14, 0x20, 0x21, 0x22, 0x30, 0x31, 0x32]

theorem Reg.selector_mem_selectors (r : Reg) : r.selector ∈ Reg.selectors := by cases r <;> decide

/-- A selector outside the table selects no register (R247). -/
theorem Reg.ofSelector_eq_none_of_not_mem {sel : Byte} (h : sel ∉ Reg.selectors) : Reg.ofSelector sel = none :=
  Reg.ofSelector_eq_none fun r hr => h (hr ▸ r.selector_mem_selectors)

/-- The word `{hi, lo}` as a number (R60). -/
theorem joinBytes_toNat (hi lo : Byte) : (joinBytes hi lo).toNat = 256 * hi.toNat + lo.toNat := by
  rw [joinBytes, BitVec.toNat_append, ← Nat.shiftLeft_add_eq_or_of_lt lo.isLt, Nat.shiftLeft_eq, Nat.mul_comm]

end Sys2Proof

namespace Sys2Proof.Machine

/-! ## Set-up and reading (R241 to R247) -/

/-- RDREG with a selector of no register is rejected (R247). -/
theorem exec_rdreg_rejects {sel : Byte} (h : Reg.ofSelector sel = none) (s : State) :
    exec (.rdreg sel) s = reject s := by
  show execRdreg sel s = reject s
  simp only [execRdreg, h]

/-- Settles O42: NOP is an acceptance, the undefined opcode a rejection, and so is RDREG where the selector selects no
register. -/
theorem nopAndUndefinedChangeNothing : Obligations.NopAndUndefinedChangeNothing := by
  unfold Obligations.NopAndUndefinedChangeNothing
  exact fun s => ⟨rfl, rfl, fun sel h => exec_rdreg_rejects (Reg.ofSelector_eq_none_of_not_mem h) s⟩

/-- CONNECT on a link that is not configured, with a legal interval (R242). -/
theorem execConnect_configures {s : State} (hc : s.configured = false) (hl : s.cfgHbInterval ≤ hbLimit s.cfg) :
    execConnect s = accept 0 { s with
      hbInterval := s.cfgHbInterval, lastMessageTime := s.now, lastHeartbeatTime := s.now
      heartbeatDead := false, configured := true } := by
  rw [execConnect, if_neg (by rw [hc]; decide), if_neg (Nat.not_lt.2 hl)]

/-- CONNECT on a configured link, or with an interval above the limit (R242, R228). -/
theorem execConnect_rejects {s : State} (h : s.configured = true ∨ hbLimit s.cfg < s.cfgHbInterval) :
    execConnect s = reject s := by
  unfold execConnect
  split
  case isTrue => rfl
  case isFalse hc => exact if_pos (h.resolve_left hc)

/-- Settles O43: the limit of an interval is a fifth of the clock's range, and the two cases of CONNECT are its two
sides on a link that is not configured. -/
theorem connectConfiguresOnce : Obligations.ConnectConfiguresOnce := by
  unfold Obligations.ConnectConfiguresOnce
  exact fun s => ⟨execConnect_configures, execConnect_rejects⟩

/-- RXGETB with a byte left in the buffer (R244). -/
theorem execRxgetb_within {s : State} (h : s.receiveCursor.toNat + 1 ≤ s.cfg.cap) :
    execRxgetb s = accept (s.rxData.read s.receiveCursor.toNat).toNat
      { s with receiveCursor := s.receiveCursor + 1 } := by
  rw [execRxgetb, if_neg (Nat.not_lt.2 h), memRead1, if_pos h, orFault_some]

/-- RXGETW with two bytes left in the buffer (R245). -/
theorem execRxgetw_within {s : State} (h : s.receiveCursor.toNat + 2 ≤ s.cfg.cap) :
    execRxgetw s = accept (256 * (s.rxData.read s.receiveCursor.toNat).toNat +
        (s.rxData.read (s.receiveCursor.toNat + 1)).toNat)
      { s with receiveCursor := s.receiveCursor + 2 } := by
  rw [execRxgetw, if_neg (Nat.not_lt.2 h), memRead2, if_pos h, orFault_some, joinBytes_toNat]

/-- Settles O44: up to the end of the buffer a read answers what stands at the cursor; past it the command raises an
overflow and is rejected. -/
theorem receiveReadsAdvanceTheCursor : Obligations.ReceiveReadsAdvanceTheCursor := by
  unfold Obligations.ReceiveReadsAdvanceTheCursor
  refine fun s => ⟨execRxgetb_within, fun h => ?byte, execRxgetw_within, fun h => ?word⟩
  case byte => exact handlerCommand_overflow (c := .rxgetb) (if_pos h)
  case word => exact handlerCommand_overflow (c := .rxgetw) (if_pos h)

/-! ## Commands inside a handler (R248) -/

/-- Settles O49: a handler's command and the same command on the command port mean the same, but for POLL. -/
theorem handlerCommandsKeepTheirRules : Obligations.HandlerCommandsKeepTheirRules := by
  unfold Obligations.HandlerCommandsKeepTheirRules
  exact fun c s hc => (exec_ofCommand hc s).symm

/-! ## What can be refused (R248, U3) -/

/-- If the outcome is a refusal, it is that of POLL in a handler, and `p` holds. -/
def RefusesPollOnlyIf (p : Prop) (o : Result) : Prop := ∀ r, o = .refused r → r = .pollInHandler ∧ p

namespace RefusesPollOnlyIf

theorem next {p : Prop} (s : State) : RefusesPollOnlyIf p (.next s) := nofun

theorem mono {p q : Prop} {o : Result} (h : RefusesPollOnlyIf p o) (g : p → q) : RefusesPollOnlyIf q o :=
  fun r e => (h r e).imp_right g

theorem ite {p c : Prop} [Decidable c] {o o' : Result} (h : RefusesPollOnlyIf p o) (g : RefusesPollOnlyIf p o') :
    RefusesPollOnlyIf p (if c then o else o') := by
  split
  · exact h
  · exact g

theorem orFault {p : Prop} {α : Type} {v : Option α} {f : α → Result} (h : ∀ x, RefusesPollOnlyIf p (f x)) :
    RefusesPollOnlyIf p (orFault v f) := by
  cases v with
  | none => nofun
  | some x => exact h x

/-- A sequence is refused in its first part, or in its second after the first has completed. -/
theorem andThen {p : Prop} {o : Result} {f : State → Result} (h : RefusesPollOnlyIf p o)
    (g : ∀ t, o = .next t → RefusesPollOnlyIf p (f t)) : RefusesPollOnlyIf p (andThen o f) := by
  cases o with
  | next t => exact g t rfl
  | fault r => nofun
  | refused r => intro r' e; cases e; exact h r rfl

/-- A handler that breaks the contract and is ready later was ready before. -/
theorem of_suffix {s t : State} {o : Result} (h : RefusesPollOnlyIf (¬ handlersLegal t) o)
    (hs : t.handlers <:+ s.handlers) : RefusesPollOnlyIf (¬ handlersLegal s) o :=
  h.mono (mt (handlersLegal_of_suffix hs))

end RefusesPollOnlyIf

theorem sendMessage_refuses {p : Prop} (s : State) : RefusesPollOnlyIf p (sendMessage s) :=
  .ite (.andThen (.orFault fun _ => .next _) fun _ _ => .next _) (.next _)

/-- Of all host commands only POLL is refused in a handler. -/
theorem handlerCommand_refuses (c : Command) (s : State) : RefusesPollOnlyIf (c = .poll) (handlerCommand c s) := by
  cases c
  case poll => intro r e; cases e; exact ⟨rfl, rfl⟩
  case connect => exact .ite (.next _) (.ite (.next _) (.next _))
  case txbyte | txword | rxgetb | rxgetw => exact .ite (.next _) (.orFault fun _ => .next _)
  case txsend => exact sendMessage_refuses s
  case txsendb f v => exact .orFault fun _ => sendMessage_refuses _
  case txsendw f w => exact .ite (.next _) (.orFault fun _ => sendMessage_refuses _)
  case rdreg sel =>
    show RefusesPollOnlyIf _ (execRdreg sel s)
    unfold execRdreg
    split
    · exact .next _
    · exact .next _
  all_goals exact .next _

/-- A refused handler holds a POLL. -/
theorem runHandler_refuses (h : List CmdWord) (s : State) : RefusesPollOnlyIf (¬ handlerLegal h) (runHandler h s) := by
  induction h generalizing s with
  | nil => exact .next s
  | cons w rest ih =>
    refine .andThen ((handlerCommand_refuses _ s).mono fun hw legal => legal w (by simp) hw) fun t _ => ?_
    exact (ih t).mono (mt fun legal v hv => legal v (by simp [hv]))

theorem emit_refuses (ev : Event) (s : State) : RefusesPollOnlyIf (¬ handlersLegal s) (emit ev s) := by
  cases hh : s.handlers with
  | nil => rw [emit_nil hh]; exact .next _
  | cons h rest =>
    rw [emit_cons hh]
    exact (runHandler_refuses h _).mono (mt fun legal => legal h (by simp [hh]))

theorem emit_sendStatus_refuses (ev : Event) (c : Byte) (s : State) :
    RefusesPollOnlyIf (¬ handlersLegal s) (emit ev (sendStatus c s)) :=
  (emit_refuses ev _).of_suffix (sendStatus_stream c s).handlers

theorem armStatus_refuses (b : Byte) (s : State) : RefusesPollOnlyIf (¬ handlersLegal s) (armStatus b s) := by
  refine .andThen ?_ fun _ _ => .next _
  split
  · exact emit_sendStatus_refuses _ _ s
  · exact emit_refuses _ s

theorem complete_refuses (s : State) : RefusesPollOnlyIf (¬ handlersLegal s) (complete s) :=
  .ite (.orFault fun _ => .andThen (emit_sendStatus_refuses _ _ s) fun _ _ => .next _) (.next _)

theorem rxTail_refuses (b : Byte) (s : State) : RefusesPollOnlyIf (¬ handlersLegal s) (rxTail b s) :=
  .ite (complete_refuses (rxAdvance b s)) (.next _)

/-- A byte is refused only where it brings a callback to a handler that breaks the contract. -/
theorem rxByte_refuses (b : Byte) (s : State) : RefusesPollOnlyIf (¬ handlersLegal s) (rxByte b s) := by
  cases ha : rxArm b (rxPrologue s) <;> simp only [rxByte, ha]
  case status => exact armStatus_refuses b (rxPrologue s)
  case length | feature | checksum => exact rxTail_refuses b (storeHeader _ b (rxPrologue s))
  case payload => exact .orFault fun m => rxTail_refuses b { rxPrologue s with rxData := m }
  all_goals exact .next _

theorem feed_refuses (bs : List Byte) (s : State) : RefusesPollOnlyIf (¬ handlersLegal s) (feed bs s) := by
  induction bs generalizing s with
  | nil => exact .next s
  | cons b bs ih =>
    exact .andThen (rxByte_refuses b s) fun t e => (ih t).of_suffix (rxByte_stream e).handlers

theorem execPoll_refuses (s : State) : RefusesPollOnlyIf (¬ handlersLegal s) (execPoll s) := by
  refine .ite (.andThen ?_ fun _ _ => .next _) (.next _)
  rw [drain_eq_feed s.rxq s rfl]
  exact feed_refuses s.rxq (s.withQueue [])

/-- An instruction is refused only through the callbacks of the bytes it consumes: no row brings POLL as a handler's
command. -/
theorem exec_refuses (i : Instr) (s : State) : RefusesPollOnlyIf (¬ handlersLegal s) (exec i s) := by
  rw [exec_eq_run]
  have hp := Action.ofInstr_ne_host_poll i
  cases ha : Action.ofInstr i with
  | bytes bs => exact feed_refuses bs s
  | host c => exact (handlerCommand_refuses c s).mono fun hc => absurd (by rw [ha, hc]) hp
  | poll => exact execPoll_refuses s
  | timeoutCheck => exact .next _
  | heartbeatTick => exact .next _

theorem step_refuses (s : State) : RefusesPollOnlyIf (¬ handlersLegal s) (step s) := by
  cases hi : s.inputs with
  | nil => rw [step_of_no_inputs hi]; exact .next s
  | cons x rest =>
    cases hx : takeInput x { s with inputs := rest } with
    | settled t => rw [step_of_takeInput_settled hi hx]; exact .next t
    | run i t =>
      obtain ⟨q, rfl⟩ := takeInput_run hx
      rw [step_of_takeInput_run hi hx]
      exact exec_refuses i (State.withQueue q { s with inputs := rest })

/-! ## What is refused (R248, U3) -/

/-- A handler whose first command is POLL is refused in every state. -/
theorem runHandler_poll_first {w : CmdWord} (hw : commandOf w = .poll) (h : List CmdWord) (s : State) :
    runHandler (w :: h) s = .refused .pollInHandler := by
  simp only [runHandler, hw, handlerCommand, andThen_refused]

/-- What the handler of a frame consumed from IDLE in `s` finds, of what its commands need to complete: the send side as
the frame found it, and the receive cursor at 0. -/
structure HandlerStart (s u : State) : Prop where
  cfg : u.cfg = s.cfg
  receiveCursor : u.receiveCursor = 0
  sendSide : u = u.withTx s

theorem HandlerStart.commandInv {s u : State} (h : HandlerStart s u) (hs : TxInv s) : CommandInv u where
  tx := hs.congr h.cfg h.sendSide
  cursor := by rw [h.receiveCursor]; exact Nat.zero_le _

/-- What a callback writes before its handler is none of this. -/
theorem HandlerStart.calling {s u : State} (h : HandlerStart s u) (sent : List Byte) (ev : Event)
    (hs : List (List CmdWord)) : HandlerStart s (u.calling sent ev hs) where
  cfg := h.cfg
  receiveCursor := h.receiveCursor
  sendSide := congrArg (State.calling · sent ev hs) h.sendSide

/-- The frames that bring a callback, consumed from IDLE, are refused where the handler that is ready is. -/
theorem callback_refused {s : State} {h : List CmdWord} {hs : List (List CmdWord)} (hr : s.receiving = false)
    (hh : s.handlers = h :: hs) (refused : ∀ u, HandlerStart s u → runHandler h u = .refused .pollInHandler) :
    (∀ c : Nibble, exec (.status c) s = .refused .pollInHandler) ∧
    (∀ (l f k : Byte) (p : List Byte), (Instr.data l f k p).wf s.cfg = true →
      exec (.data l f k p) s = .refused .pollInHandler) := by
  refine ⟨fun c => ?status, fun l f k p hwf => ?data⟩
  case status =>
    have run : exec (.status c) s = _ :=
      (feed_statusBytes hr (statusCode_ge c)).trans (armStatus_handler (s := armStart s.refreshed) hh (statusCode c))
    have start : HandlerStart s (armStart s.refreshed) := ⟨rfl, rfl, rfl⟩
    rw [run, refused _ (start.calling _ _ _), andThen_refused]
  case data =>
    obtain ⟨shape, sum⟩ := data_wf_iff.1 hwf
    obtain ⟨hp, hcap⟩ := dataShape_iff.1 shape
    have run : exec (.data l f k p) s = _ :=
      (feed_dataBytes hr hp hcap).trans (complete_handler (s := s.filled l f k p) hh sum hcap)
    have start : HandlerStart s (s.filled l f k p) := ⟨rfl, rfl, rfl⟩
    rw [run, refused _ (start.calling _ _ _), andThen_refused]

/-- Settles O58: a POLL that comes first is refused in every state; before a later one the handler's commands complete,
as it starts with a sound send side; and a step is refused only through a handler that holds a POLL. -/
theorem pollInHandlerIsTheOnlyRefusal : Obligations.PollInHandlerIsTheOnlyRefusal := by
  unfold Obligations.PollInHandlerIsTheOnlyRefusal
  refine ⟨fun _ => rfl, fun s w h hs hr hh hw => ?first, fun s h hs inv hr hh hp => ?later, step_refuses⟩
  case first => exact callback_refused hr hh fun u _ => runHandler_poll_first hw h u
  case later => exact callback_refused hr hh fun u start => runHandler_refused (start.commandInv inv.tx) hp

end Sys2Proof.Machine

/-! The end of every receive-side error (60_exceptions.md): whichever raises it, a byte or a timeout, the block is as in IDLE
after a purge, and the next byte finds it so. -/

namespace Sys2Proof.Machine

/-- A receive-side error raised in `s` ended in `t`: the receive Message is purged, and neither the send side nor the
configuration has changed (R291). -/
structure RejectedFrom (s t : State) : Prop where
  purged : RxPurged t
  sendSide : t = t.withTx s
  cfg : t.cfg = s.cfg

/-- A byte that raises an error ends the one way an error ends: what it received is purged, before any callback. -/
theorem RejectedFrom.of_byte {b : Byte} {s t : State} (raised : errorOfByte b s ≠ none) (e : rxByte b s = .next t) :
    RejectedFrom s t := by
  cases rxByte_outcome e with
  | stored quiet | status quiet | message quiet => exact absurd quiet raised
  | @failed m _ rx => exact ⟨.of_withRx m rfl, by rw [rx]; rfl, by rw [rx]; rfl⟩

/-- A TIMEOUTCHK that raises the error purges what the frame had (R220). -/
theorem RejectedFrom.of_timeout {s : State} (raised : errorOfTimeout s ≠ none) : RejectedFrom s (timeoutCheck s) := by
  unfold errorOfTimeout at raised
  have expired : timeoutExpired s = true := by
    by_contra held
    exact raised (if_neg held)
  rw [timeoutCheck_expired expired]
  exact ⟨.of_withRx s rfl, rfl, rfl⟩

/-- Settles O25: both sources of an error end in `RejectedFrom`, so the next byte runs an arm of IDLE, START or VIOLATION. -/
theorem receiveErrorsEndIdle : Obligations.ReceiveErrorsEndIdle := by
  unfold Obligations.ReceiveErrorsEndIdle
  intro s t ended
  have rejected : RejectedFrom s t := by
    rcases ended with ⟨b, raised, e⟩ | ⟨raised, e⟩
    · exact .of_byte raised e
    · cases e
      exact .of_timeout raised
  have idle := rejected.purged.receiving
  refine ⟨idle, rejected.purged.receiveCount, rejected.purged.data, rejected.sendSide, ?marker, fun c hc => ?stray⟩
  case marker => exact ⟨armStart t.refreshed, rxByte_start idle, rfl, rfl⟩
  case stray =>
    rw [← rejected.cfg]
    exact ⟨t.afterStrays 1, rxByte_stray idle hc, rfl, rfl⟩

end Sys2Proof.Machine

/-! Reset (70_reset_and_hazards.md): the launch state, and the reset event in whatever state it comes. Both leave the two
Messages as their purges do. -/

namespace Sys2Proof.Machine

/-! ## The launch state (R320, R323) -/

theorem rxPurged_resetWith (c : Config) : RxPurged (State.resetWith c) := .of_withRx (State.resetWith c) rfl

theorem txPurged_resetWith (c : Config) : TxPurged (State.resetWith c) := .of_withTx (State.resetWith c) rfl

/-- Settles O53: both Messages are as purged, and every other register is written as its reset value. -/
theorem launchStateIsReset : Obligations.LaunchStateIsReset := by
  unfold Obligations.LaunchStateIsReset
  exact ⟨rfl, fun c => ⟨rfl, rxPurged_resetWith c, txPurged_resetWith c, rfl, rfl, rfl, rfl, rfl, rfl, rfl, rfl, rfl, rfl⟩⟩

/-- Every register and every input is 0 at launch, and no answer has been given (R33 to R37, R46, R48, R101). -/
theorem widthInv_resetWith (c : Config) : WidthInv (State.resetWith c) where
  interval := Nat.zero_le _
  message := Nat.two_pow_pos _
  heartbeat := Nat.two_pow_pos _
  clock := Nat.two_pow_pos _
  strap := Nat.two_pow_pos _
  failed := Nat.two_pow_pos _
  success := Nat.two_pow_pos _
  responses := fun _ given => absurd given List.not_mem_nil

/-- Settles O54: the two sides are as their purges leave them, and no register exceeds its width. -/
theorem launchStateMeetsInvariant : Obligations.LaunchStateMeetsInvariant := by
  unfold Obligations.LaunchStateMeetsInvariant
  intro c
  have tx : TxInv (State.resetWith c) := (purgeTx_inv (State.resetWith c)).congr rfl rfl
  have rx : RxInv (State.resetWith c) := (RxInv.purged (State.resetWith c)).congr rfl rfl
  exact ⟨tx, rx, widthInv_resetWith c, fun _ => ⟨rfl, rfl, rfl⟩⟩

/-! ## The reset event (R320, R321) -/

theorem rxPurged_resetCore (s : State) : RxPurged (resetCore s) := .of_withRx s rfl

theorem txPurged_resetCore (s : State) : TxPurged (resetCore s) := .of_withTx s rfl

/-- Settles O52: the reset event brings no instruction, so the step ends in `resetCore`, whose queue and traces are those
of the state it came in. -/
theorem resetEventForgetsTheFrame : Obligations.ResetEventForgetsTheFrame := by
  unfold Obligations.ResetEventForgetsTheFrame
  intro s rest h
  have stepped : step s = .next (resetCore { s with inputs := rest }) := step_of_takeInput_settled h rfl
  exact ⟨_, stepped, rxPurged_resetCore _, txPurged_resetCore _, rfl⟩

end Sys2Proof.Machine
